-- ==== Sys2Proof/Word.lean ====
section
/-! DEFINITION. The widths of what the spec treats as bits: bytes on the wire and in the buffers, the 16-bit addresses and
counts, the 32-bit command word and read-port word (spec/00_scope.md section 6). Everything is unsigned (R130, R61). -/

namespace Sys2Proof

/-- One byte: a frame element, a buffer cell, the accumulator (00_scope.md section 6). -/
abbrev Byte := BitVec 8

/-- A 16-bit value: BASE, LEN, ILEN, OFF, REM, the deadline, a buffer offset (R17 to R21, R40). -/
abbrev Half := BitVec 16

/-- A 32-bit value: a command word (R60) or a word of the register read port (R32). -/
abbrev Word := BitVec 32

end Sys2Proof
end

