-- ==== Sys2Proof/Syntax.lean ====
section
/-! DEFINITION. The 16 operations of the opcode map (R62), one constructor a row, in the table's order, with the operand
fields of R61 as typed data: an operand that its format cannot carry cannot be written down (log entry 14). -/

namespace Sys2Proof

/-- An operation: what one accepted command word asks for. -/
inductive Instr where
  /-- CFG.RETRY imm8 (R91). -/
  | cfgRetry (imm8 : Byte)
  /-- CFG.PEC r, w (R92). -/
  | cfgPec (r w : Bool)
  /-- CFG.TMO imm16 (R93). -/
  | cfgTmo (imm16 : Half)
  /-- SET.BASE imm16 (R94). -/
  | setBase (imm16 : Half)
  /-- SET.LEN imm16 (R95). -/
  | setLen (imm16 : Half)
  /-- SET.ILEN imm16 (R96). -/
  | setIlen (imm16 : Half)
  /-- PEC.CLR (R135). -/
  | pecClr
  /-- PEC.UPD imm8 (R136). -/
  | pecUpd (imm8 : Byte)
  /-- PEC.ADW (R137). -/
  | pecAdw
  /-- PEC.ADR (R138). -/
  | pecAdr
  /-- PEC.CHK imm8 (R139). -/
  | pecChk (imm8 : Byte)
  /-- XF.W (R145). -/
  | xfW
  /-- XF.WR (R146). -/
  | xfWr
  /-- DF.WR (R170). -/
  | dfWr
  /-- DF.RD (R175). -/
  | dfRd
  /-- ABORT (R97). -/
  | abort
  deriving DecidableEq, Repr

end Sys2Proof
end

