-- ==== Sys2Proof/WellFormed.lean ====
section
/-! DEFINITION. Well-formedness. An `Instr` is well-formed by its types; what can be ill-formed is a command word, taken apart
into the three fields of R60. A word is defined when its OP is in the table (R62), its RSV field is zero (R60) and the
must-be-zero bits of its format are zero (R61); any other word is undefined (R69). Decode.lean decodes exactly these. -/

namespace Sys2Proof

/-- The four formats of R61. -/
inductive Format where
  | n | i2 | i8 | i16
  deriving DecidableEq, Repr

/-- The IMM bits a format leaves unused and R61 requires to be zero. -/
def Format.mustBeZero : Format → Half
  | .n => 0xFFFF#16
  | .i2 => 0xFFFC#16
  | .i8 => 0xFF00#16
  | .i16 => 0x0000#16

/-- A command word's fields (R60). -/
structure Fields where
  /-- bits 31:24 -/
  op : Byte
  /-- bits 23:16 -/
  rsv : Byte
  /-- bits 15:0 -/
  imm : Half
  deriving DecidableEq, Repr

/-- The OP column of R62 and the format each row has; none for an OP value not in the table. -/
def formatOf (op : Byte) : Option Format :=
  match op.toNat with
  | 0x01 => some .i8
  | 0x02 => some .i2
  | 0x03 => some .i16
  | 0x04 => some .i16
  | 0x05 => some .i16
  | 0x06 => some .i16
  | 0x10 => some .n
  | 0x11 => some .i8
  | 0x12 => some .n
  | 0x13 => some .n
  | 0x14 => some .i8
  | 0x20 => some .n
  | 0x21 => some .n
  | 0x30 => some .n
  | 0x31 => some .n
  | 0x40 => some .n
  | _ => none

/-- R62: the OP value is one of the table's. -/
def Fields.opDefined (f : Fields) : Bool := (formatOf f.op).isSome

/-- R60: RSV is 0x00. -/
def Fields.rsvZero (f : Fields) : Bool := f.rsv == 0#8

/-- R61: every IMM bit the format does not use is zero. -/
def Fields.unusedZero (f : Fields) : Bool :=
  match formatOf f.op with
  | none => false
  | some fmt => f.imm &&& fmt.mustBeZero == 0#16

/-- R69 read from the other side: the word is defined. -/
def Fields.wellFormed (f : Fields) : Bool := f.opDefined && f.rsvZero && f.unusedZero

end Sys2Proof
end

