-- ==== Sys2Proof/Decode.lean ====
section
/-! DEFINITION. The decoder (total on every 32-bit word, rejecting by name) and the encoder, both from R60 to R62. A command
word reaches the block whole on the command port (R31), so no byte order enters. -/

namespace Sys2Proof

/-- Why a command word is undefined (R69). -/
inductive Undefined where
  /-- OP is not in the table of R62. -/
  | unknownOp (op : Byte)
  /-- RSV is not zero. -/
  | reservedField (rsv : Byte)
  /-- A bit of IMM that the format does not use is not zero. -/
  | unusedOperandBits (imm : Half)
  deriving DecidableEq, Repr

/-- The fields of a word (R60). -/
def fieldsOf (w : Word) : Fields :=
  { op := w.extractLsb' 24 8, rsv := w.extractLsb' 16 8, imm := w.extractLsb' 0 16 }

/-- The word that has these fields (R60). -/
def wordOf (f : Fields) : Word := f.op ++ f.rsv ++ f.imm

/-- imm8 = IMM[7:0] (R61). -/
def imm8Of (imm : Half) : Byte := imm.extractLsb' 0 8

/-- IMM with imm8 in its low byte and zeros above (R61). -/
def immOf8 (b : Byte) : Half := 0#8 ++ b

/-- IMM with r in bit 0, w in bit 1 and zeros above (R61). -/
def immOf2 (r w : Bool) : Half := 0#14 ++ BitVec.ofBool w ++ BitVec.ofBool r

/-- The operation a row of R62 names, with its operand taken from IMM as its format says (R61). The decoder needs only OP. -/
def operationOf (op : Byte) (imm : Half) : Option Instr :=
  match op.toNat with
  | 0x01 => some (.cfgRetry (imm8Of imm))
  | 0x02 => some (.cfgPec (imm.getLsbD 0) (imm.getLsbD 1))
  | 0x03 => some (.cfgTmo imm)
  | 0x04 => some (.setBase imm)
  | 0x05 => some (.setLen imm)
  | 0x06 => some (.setIlen imm)
  | 0x10 => some .pecClr
  | 0x11 => some (.pecUpd (imm8Of imm))
  | 0x12 => some .pecAdw
  | 0x13 => some .pecAdr
  | 0x14 => some (.pecChk (imm8Of imm))
  | 0x20 => some .xfW
  | 0x21 => some .xfWr
  | 0x30 => some .dfWr
  | 0x31 => some .dfRd
  | 0x40 => some .abort
  | _ => none

/-- Decode a word's fields: reject an undefined word by the first check it fails, else give the operation (R60 to R62, R69). -/
def decodeFields (f : Fields) : Except Undefined Instr :=
  if f.rsvZero = false then .error (.reservedField f.rsv)
  else
    match operationOf f.op f.imm with
    | none => .error (.unknownOp f.op)
    | some i => if f.unusedZero then .ok i else .error (.unusedOperandBits f.imm)

/-- Decode a command word. -/
def decode (w : Word) : Except Undefined Instr := decodeFields (fieldsOf w)

/-- The fields of an operation's command word: the OP column of R62, RSV zero, IMM as its format lays it out (R61). -/
def Instr.fields : Instr → Fields
  | .cfgRetry imm8 => ⟨0x01#8, 0#8, immOf8 imm8⟩
  | .cfgPec r w => ⟨0x02#8, 0#8, immOf2 r w⟩
  | .cfgTmo imm16 => ⟨0x03#8, 0#8, imm16⟩
  | .setBase imm16 => ⟨0x04#8, 0#8, imm16⟩
  | .setLen imm16 => ⟨0x05#8, 0#8, imm16⟩
  | .setIlen imm16 => ⟨0x06#8, 0#8, imm16⟩
  | .pecClr => ⟨0x10#8, 0#8, 0#16⟩
  | .pecUpd imm8 => ⟨0x11#8, 0#8, immOf8 imm8⟩
  | .pecAdw => ⟨0x12#8, 0#8, 0#16⟩
  | .pecAdr => ⟨0x13#8, 0#8, 0#16⟩
  | .pecChk imm8 => ⟨0x14#8, 0#8, immOf8 imm8⟩
  | .xfW => ⟨0x20#8, 0#8, 0#16⟩
  | .xfWr => ⟨0x21#8, 0#8, 0#16⟩
  | .dfWr => ⟨0x30#8, 0#8, 0#16⟩
  | .dfRd => ⟨0x31#8, 0#8, 0#16⟩
  | .abort => ⟨0x40#8, 0#8, 0#16⟩

/-- The command word of an operation. -/
def encode (i : Instr) : Word := wordOf i.fields

/-- The word whose low `nbits` bits are those of `w`, as the opcode table numbers them: one 32-bit command word, bit 0 its
least significant bit (R60). -/
def tableWord (nbits w : Nat) : Word := BitVec.ofNat 32 (w % 2 ^ nbits)

/-- The operation the decoder reads from a table word of at most 32 bits. -/
def decodeTableWord (nbits w : Nat) : Option Instr :=
  if nbits ≤ 32 then
    match decode (tableWord nbits w) with
    | .ok i => some i
    | .error _ => none
  else none

end Sys2Proof
end

