-- ==== Sys2Proof/Config.lean ====
section
/-! DEFINITION. What an implementation fixes and what the spec leaves open: the parameter table P1 to P16 (R2) and the two
free values. The fixed parameters are constants here. The OPEN ones (DEV_ADDR, CMD_MAC, BACKOFF_MS, RD_FULL_FRAME,
CFG_RESET, Cause) are an argument of the model, the record `Params`, which every state carries and no step changes: every statement
about all states holds for all their values. -/

namespace Sys2Proof

/-- The code of a bus fault's cause (P13, R16), as wide as a read of CAUSE (R32). Which codes are values of the type Cause is
the parameter `Params.lastCause`. DESIGN CHOICE, log entry 8. -/
abbrev Cause := Word

/-- The configuration record of R13: the fields of CFG and CFGS. -/
structure CfgRecord where
  /-- CFG[7:0], the retry budget every transaction starts with. -/
  maxRetries : Byte
  /-- CFG[8]. -/
  pecOnRead : Bool
  /-- CFG[9]. -/
  pecOnWrite : Bool
  /-- CFG[31:16], the per-attempt deadline in milliseconds; 0 means none is configured. -/
  timeoutMs : Half
  deriving DecidableEq, Repr

/-- The OPEN parameters of R2, fixed for the life of the block. -/
structure Params where
  /-- P1, the fixed 7-bit device address. -/
  devAddr : BitVec 7
  /-- P2, the MAC command byte. -/
  cmdMac : Byte
  /-- P3, the backoff interval in milliseconds. -/
  backoffMs : Nat
  /-- P11: does a block read always request a full frame (R177)? -/
  rdFullFrame : Bool
  /-- P12, the value of CFG and CFGS at reset. -/
  cfgReset : CfgRecord
  /-- P13, the opaque type Cause: its values are the codes 0 to `lastCause` (log entry 8). -/
  lastCause : Cause
  deriving DecidableEq, Repr

/-- Is this code a value of the type Cause (P13)? -/
def Params.isCause (p : Params) (c : Cause) : Bool := decide (c ≤ p.lastCause)

/-- The value of the type Cause that a free code stands for: itself, or the last one if the code is beyond it. -/
def Params.toCause (p : Params) (c : Cause) : Cause := if c ≤ p.lastCause then c else p.lastCause

namespace Config

/-- P4 (R3): data bytes per physical block transaction. -/
def chunkMax : Nat := 32
/-- P5: address bytes in a frame, low byte first (R44). -/
def addrBytes : Nat := 2
/-- P6: x^8 + x^2 + x + 1 without its top term (R130). -/
def pecPoly : Byte := 0x07#8
/-- P7: the accumulator's starting value (R11, R130). -/
def pecInit : Byte := 0x00#8
/-- P8, the observed data-flash window. Informative: no rule checks it (R46); Safety.lean uses it to say what a careful
host keeps to (R233). -/
def dfLo : Nat := 0x4000
/-- P8, upper bound, inclusive. -/
def dfHi : Nat := 0x5FFF
/-- P9 (R24): the largest out-frame. -/
def txbSize : Nat := 37
/-- P10 (R24): the largest in-frame. -/
def rxbSize : Nat := 36

/-- P12's default: no retries, no PEC, no deadline (D17). -/
def cfgResetDefault : CfgRecord :=
  { maxRetries := 0#8, pecOnRead := false, pecOnWrite := false, timeoutMs := 0#16 }

/-- The parameter values the vectors of 95_test_vectors.md use, which State.reset carries. PRESUMED, log entry 7: 0x0B and
0x44 are general knowledge in the spec's own words, and the vectors' causes are one byte. DESIGN CHOICE, log entry 9: BACKOFF_MS has no value anywhere; 0. -/
def vectorParams : Params :=
  { devAddr := 0x0B#7, cmdMac := 0x44#8, backoffMs := 0, rdFullFrame := false, cfgReset := cfgResetDefault,
    lastCause := 0xFF#32 }

end Config

/-- FREE VALUE (U8, R40; log entry 5): what byte `a` of OBUF holds while nothing has written it. -/
opaque Config.unwrittenObuf : Nat → Byte

/-- FREE VALUE (U8, R41; log entry 5): what byte `a` of IBUF holds while nothing has written it. -/
opaque Config.unwrittenIbuf : Nat → Byte

/-- FREE VALUE (U8, R16; log entry 6): the code of the k-th unspecified value of CAUSE, read while STATUS.ERR is not 1 or left
by reset; `Params.toCause` makes it a value of the type Cause. -/
opaque Config.unspecifiedCause : Nat → Cause

end Sys2Proof
end

