-- ==== Sys2Proof/Machine/State.lean ====
section
/-! DEFINITION. The state of the machine as plain data: every register of R10, the sequencing state (R27), the engine's
transaction buffers and the arguments of the running `Transact` call (R23, R114), the host's two buffers (R40, R41), the event
trace (R53), and, for the agents of R30, the schedule of their turns. -/

namespace Sys2Proof.Machine

/-- STATUS.STATE (R15). -/
inductive OpState where
  | idle | busy | done | err
  deriving DecidableEq, Repr

/-- STATUS.ERR (R15, R190): codes 0 to 5 in this order; 6 and 7 are never set. -/
inductive ErrKind where
  | none | communication | checksum | timeout | protocolViolation | deviceReported
  deriving DecidableEq, Repr

/-- STATUS (R15). -/
structure Status where
  state : OpState
  err : ErrKind
  deriving DecidableEq, Repr

/-- SEQ.OPK: which transaction operation runs (R27). -/
inductive OpKind where
  | none | xfw | xfwr | dfwr | dfrd
  deriving DecidableEq, Repr

/-- SEQ.STAGE (R27); `none` is the "-" of (NONE, -, IDLE) and of the operations other than DF.RD. -/
inductive Stage where
  | none | sel | blk
  deriving DecidableEq, Repr

/-- SEQ.PHASE (R27): a bus primitive is outstanding, a delay is outstanding, or neither. -/
inductive Phase where
  | idle | attempt | backoff
  deriving DecidableEq, Repr

/-- SEQ (R27). -/
structure Seq where
  opk : OpKind
  stage : Stage
  phase : Phase
  deriving DecidableEq, Repr

/-- (NONE, -, IDLE), the sequencing state between operations (R26, R27). -/
def Seq.idle : Seq := { opk := .none, stage := .none, phase := .idle }

/-- The two kinds of transaction (R114): a write, or a write-then-read. -/
inductive XKind where
  | w | wr
  deriving DecidableEq, Repr

/-- The arguments of `Transact(kind, out, nin)` (R114), held while its attempts run so that each reissues identically and
OBUF is not read again (R50, R120). -/
structure Call where
  kind : XKind
  /-- the out-payload, without PEC -/
  out : List Byte
  /-- in-payload bytes wanted; 0 for a write -/
  nin : Nat
  deriving DecidableEq, Repr

/-- What the engine holds for the duration of one transaction: the call, TXB and RXB (R23), and the CRC to which an unanswered
read attempt returns (R141, R144). -/
structure Scratch where
  call : Call
  /-- TXB: the out-frame of the current attempt. -/
  txb : List Byte
  /-- RXB: the in-frame last received by the current transaction. -/
  rxb : List Byte
  /-- CRC as the current attempt found it, before clearing it (R11); "an attempt that ended in BusError or Timeout does not
  touch CRC" (R141). The model's own field (log entry 19). -/
  heldCrc : Byte
  deriving DecidableEq, Repr

/-- Nothing held: the buffers "keep no value between operations" (R23). -/
def Scratch.empty : Scratch := { call := { kind := .w, out := [], nin := 0 }, txb := [], rxb := [], heldCrc := 0#8 }

/-- What the bus port answers to a request (R110, R111); `ok []` is the answer to a successful write. -/
inductive BusOutcome where
  | ok (data : List Byte)
  | busError (cause : Cause)
  | timeout
  deriving DecidableEq, Repr

/-- The outcome a trace event shows: the port's answer, `pending` while the request is outstanding, `cancelled` when ABORT or
reset abandoned it (R97, R221). -/
inductive EventOutcome where
  | pending
  | ok (data : List Byte)
  | busError (cause : Cause)
  | timeout
  | cancelled
  deriving DecidableEq, Repr

/-- A trace event (R53). -/
inductive Event where
  /-- `W(frame, outcome)` -/
  | w (frame : List Byte) (outcome : EventOutcome)
  /-- `WR(out, k, outcome)` -/
  | wr (out : List Byte) (k : Nat) (outcome : EventOutcome)
  /-- `D(ms)` -/
  | d (ms : Nat)
  deriving DecidableEq, Repr

/-- The two host buffer spaces (R40, R41). -/
inductive Space where
  | obuf | ibuf
  deriving DecidableEq, Repr

/-- One turn of an agent (R30). -/
inductive Input where
  /-- ENGINE takes its step s1, issuing the next attempt (R118). -/
  | engine
  /-- HOST presents a command word on the command port (R31). -/
  | command (w : Word)
  /-- BUS answers the outstanding request (R110, R111). -/
  | busAnswer (o : BusOutcome)
  /-- DELAY ends the outstanding backoff (R112). -/
  | delayDone
  /-- HOST reads the register with read index i (R32). -/
  | readReg (i : Nat)
  /-- HOST reads a byte of one of its buffers (R30). -/
  | loadBuf (sp : Space) (a : Half)
  /-- HOST writes a byte of one of its buffers (R30). -/
  | storeBuf (sp : Space) (a : Half) (v : Byte)
  /-- Reset is applied to the block (R220, R221). -/
  | reset
  deriving DecidableEq, Repr

/-- What a read port delivered to the host. -/
inductive HostRead where
  | reg (i : Nat) (v : Word)
  | buf (sp : Space) (a : Half) (v : Byte)
  deriving DecidableEq, Repr

/-- A buffer's contents: the bytes something has written, by offset, strictly rising (`Memory.wf`). An unlisted offset holds
no known value. -/
abbrev Memory := List Host.Cell

/-- Why the machine stops because an agent was given a turn it does not have. The spec gives ENGINE, BUS and DELAY no such step;
each stop is SAFE (the machine stops where nothing is specified), and no command word leads to one. -/
inductive Fault where
  /-- Raised by a turn given to ENGINE while it has no attempt to issue: not BUSY, or waiting for a port (R30, R118 s1). Safe. -/
  | engineNotReady
  /-- Raised by a bus answer when no bus request is outstanding (R30, R118 s2). Safe. -/
  | unsolicitedBusAnswer
  /-- Raised by a bus answer Timeout when the request carried no deadline (R110, R111, R117). Safe. -/
  | timeoutWithoutDeadline
  /-- Raised by a bus answer Ok whose byte count is not the k requested, or that brings bytes to a write (R110, R111). Safe. -/
  | answerLengthNotRequested
  /-- Raised by a bus answer BusError whose code is no value of the type Cause (R110, P13). Safe. -/
  | causeOutOfRange
  /-- Raised by the end of a delay when no delay is outstanding (R30, R118 s4). Safe. -/
  | unsolicitedDelayEnd
  deriving DecidableEq, Repr

/-- Why a host action has no meaning. -/
inductive Refusal where
  /-- An instruction whose meaning is not written; raised by no arm of exec. Safe. -/
  | notModelled (mnemonic : String)
  /-- Raised by every word but CFG.* and ABORT, defined or not, presented while STATUS.STATE = BUSY: it is not accepted and has
  no effect, and R90, D22 and U7 tell a model to refuse the step. Safe. -/
  | wordNotAccepted
  /-- Raised by the host's storing to OBUF or IBUF, or loading IBUF, while STATUS.STATE = BUSY, a step R56, R228 and U9 tell a
  model to refuse. Safe. -/
  | bufferOwnedByOperation
  /-- Raised by the host's reading a register index that does not exist, 12 or above (R10, U11). Safe. -/
  | noSuchRegister
  deriving DecidableEq, Repr

/-- The machine's state. -/
structure State where
  /-- The OPEN parameters (R2): not state of the block, and no step changes them (R4). -/
  params : Params
  /-- CRC, read index 0 (R11). -/
  crc : Byte
  /-- FLAGS.Z, read index 1 (R12). -/
  z : Bool
  /-- STATUS, read index 2 (R15). -/
  status : Status
  /-- CAUSE, read index 3 (R16). -/
  cause : Cause
  /-- CFG, read index 4 (R13). -/
  cfg : CfgRecord
  /-- CFGS, read index 5 (R14). -/
  cfgs : CfgRecord
  /-- BASE, read index 6 (R17). -/
  base : Half
  /-- LEN, read index 7 (R18). -/
  len : Half
  /-- ILEN, read index 8 (R19). -/
  ilen : Half
  /-- OFF, read index 9 (R20). -/
  off : Half
  /-- REM, read index 10 (R21). -/
  rem : Half
  /-- RETRY, read index 11 (R22). -/
  retry : Byte
  /-- SEQ (R27). -/
  seq : Seq
  /-- TXB, RXB and the running `Transact` call (R23, R114), and the CRC its attempt found (log entry 19). -/
  scratch : Scratch
  /-- OBUF, the host's source buffer (R40). -/
  obuf : Memory
  /-- IBUF, the host's destination buffer (R41). -/
  ibuf : Memory
  /-- The event trace, NEWEST FIRST (R53). -/
  trace : List Event
  /-- What the host's reads delivered, NEWEST FIRST (R32); the model's own field. -/
  reads : List HostRead
  /-- Whose turn comes next and what they do, next first; the model's own field (log entry 10). -/
  inputs : List Input
  /-- How many unspecified CAUSE values have been drawn; the model's own field (log entry 6). -/
  drawn : Nat
  deriving DecidableEq, Repr

/-- The machine right after reset (R220), the parameters at the values of the vectors, nothing written to the host's buffers,
nothing presented. CAUSE is unspecified there: its 0 is the model's (log entry 6). -/
def State.reset : State :=
  { params := Config.vectorParams
    crc := Config.pecInit
    z := false
    status := { state := .idle, err := .none }
    cause := 0#32
    cfg := Config.vectorParams.cfgReset
    cfgs := Config.vectorParams.cfgReset
    base := 0#16
    len := 0#16
    ilen := 0#16
    off := 0#16
    rem := 0#16
    retry := 0#8
    seq := Seq.idle
    scratch := Scratch.empty
    obuf := []
    ibuf := []
    trace := []
    reads := []
    inputs := []
    drawn := 0 }

end Sys2Proof.Machine
end

