-- ==== Sys2Proof/Machine/Flags.lean ====
section
/-! DEFINITION. The checksum (R130 to R134) and the one flag, Z (R12): every value CRC and Z can be given is computed here. -/

namespace Sys2Proof.Machine

/-- One of the eight rounds of R131: shift left, and reduce by the polynomial if the bit shifted out was 1. -/
def crcShift (x : Byte) : Byte :=
  if x.getLsbD 7 then (x <<< 1) ^^^ Config.pecPoly else x <<< 1

/-- n rounds of R131. -/
def crcShifts : Nat → Byte → Byte
  | 0, x => x
  | n + 1, x => crcShifts n (crcShift x)

/-- `crc8_update(c, b)` (R131). -/
def crc8Update (c b : Byte) : Byte := crcShifts 8 (c ^^^ b)

/-- `crc8_from(c, s)` (R132). -/
def crc8From (c : Byte) (s : List Byte) : Byte := s.foldl crc8Update c

/-- `crc8(s)` (R132). -/
def crc8 (s : List Byte) : Byte := crc8From Config.pecInit s

/-- AW, the address byte with the write direction (R133). -/
def addrWrite (p : Params) : Byte := (p.devAddr.setWidth 8 <<< 1) ||| 0#8

/-- AR, the address byte with the read direction (R133). -/
def addrRead (p : Params) : Byte := (p.devAddr.setWidth 8 <<< 1) ||| 1#8

/-- The bytes a write's checksum covers (R134). -/
def coverW (p : Params) (out : List Byte) : List Byte := addrWrite p :: out

/-- The bytes a write-then-read's checksum covers (R134). -/
def coverWR (p : Params) (out inp : List Byte) : List Byte := addrWrite p :: out ++ addrRead p :: inp

/-- Z after comparing CRC with a checksum byte (R12, R139, R141). -/
def matchFlag (crc b : Byte) : Bool := crc == b

end Sys2Proof.Machine
end

