-- ==== Sys2Proof/Machine/Ops.lean ====
section
/-! DEFINITION. The named operations over buffers, STATUS, SEQ and the trace, shared by every meaning: single-byte buffer
accesses (R40, R41, R48, R50), acceptance (R90), the start and end of a transaction operation, raising an error (R200), and the
trace (R53). -/

namespace Sys2Proof.Machine

/-- The byte listed at offset `a`, if any. -/
def Memory.find? : Memory → Nat → Option Byte
  | [], _ => none
  | (b, v) :: m, a => if a = b then some v else Memory.find? m a

/-- Store one byte, keeping the offsets strictly rising. -/
def Memory.put : Memory → Nat → Byte → Memory
  | [], a, v => [(a, v)]
  | (b, w) :: m, a, v =>
    if a < b then (a, v) :: (b, w) :: m
    else if a = b then (a, v) :: m
    else (b, w) :: Memory.put m a v

/-- Strictly rising from `lo`, and inside the 65536 offsets of a buffer (R40, R41). -/
def Memory.wfFrom : Nat → Memory → Bool
  | _, [] => true
  | lo, (a, _) :: m => decide (lo ≤ a) && decide (a < 65536) && Memory.wfFrom (a + 1) m

/-- The canonical form: offsets strictly rising, all of them offsets of the buffer. -/
def Memory.wf (m : Memory) : Bool := Memory.wfFrom 0 m

/-- What an offset that nothing has written reads as: a free value of that offset (log entry 5). -/
def unwritten : Space → Nat → Byte
  | .obuf => Config.unwrittenObuf
  | .ibuf => Config.unwrittenIbuf

/-- The contents of a buffer. -/
def State.buf (s : State) : Space → Memory
  | .obuf => s.obuf
  | .ibuf => s.ibuf

/-- The byte a buffer holds at an offset (R40, R41, R48). -/
def readByte (s : State) (sp : Space) (a : Half) : Byte :=
  ((s.buf sp).find? a.toNat).getD (unwritten sp a.toNat)

/-- `MemRead(space, a, n)`: n single-byte reads, offsets ascending (R33, R44, R50). Offsets are 16 bits. -/
def memRead (s : State) (sp : Space) (a : Half) : Nat → List Byte
  | 0 => []
  | n + 1 => readByte s sp a :: memRead s sp (a + 1#16) n

/-- `MemWrite(space, a, |v|, v)` on a buffer's contents: single-byte writes, offsets ascending (R33, R44, R50). -/
def memWrite (m : Memory) (a : Half) : List Byte → Memory
  | [] => m
  | v :: vs => memWrite (m.put a.toNat v) (a + 1#16) vs

/-- Is a transaction operation running, as command acceptance sees it (R90)? -/
def State.busy (s : State) : Bool := s.status.state == .busy

/-- A command word stands on the command port, to be presented next (R31). -/
def presentNext (w : Word) (s : State) : State := { s with inputs := .command w :: s.inputs }

/-- Acceptance of every operation but CFG.* and ABORT (R90): while BUSY the word is not accepted and has no effect, and the
host is given no step that presents it (D22, U7; log entry 1); otherwise it executes, to `t`. -/
def acceptUnlessBusy (s t : State) : Host.Outcome State Fault Refusal :=
  if s.busy then .refused .wordNotAccepted else .next t

/-- The first actions of a transaction operation (R14, R15, R31, R145): the snapshot, STATUS <- (BUSY, 0), SEQ.OPK. -/
def startOperation (k : OpKind) (s : State) : State :=
  { s with
    cfgs := s.cfg
    status := { state := .busy, err := .none }
    seq := { opk := k, stage := .none, phase := .idle } }

/-- The progress registers when a chunked operation is accepted: OFF <- 0, REM <- LEN (R20, R21). -/
def startProgress (s : State) : State := { s with off := 0#16, rem := s.len }

/-- One chunk of n bytes done: OFF <- OFF + n, REM <- REM - n (R20, R21). -/
def advanceProgress (n : Nat) (s : State) : State :=
  { s with off := s.off + BitVec.ofNat 16 n, rem := s.rem - BitVec.ofNat 16 n }

/-- A transaction is over: its buffers keep no value (R23; log entry 13). -/
def releaseBuffers (s : State) : State := { s with scratch := Scratch.empty }

/-- A running operation ends: SEQ <- (NONE, -, IDLE); the transaction buffers keep no value (R23, R26). -/
def leaveOperation (s : State) : State := { releaseBuffers s with seq := Seq.idle }

/-- A transaction operation ends in success: STATUS <- (DONE, 0) (R15, R145). -/
def finish (s : State) : State := { leaveOperation s with status := { state := .done, err := .none } }

/-- The errors the block raises, with what each records (R190). DeviceReportedFault is not among them (R205). -/
inductive Raised where
  | communication (cause : Cause)
  | checksum
  | timeout
  | protocolViolation
  deriving DecidableEq, Repr

/-- The error kind of a raised error (R190). -/
def Raised.kind : Raised → ErrKind
  | .communication _ => .communication
  | .checksum => .checksum
  | .timeout => .timeout
  | .protocolViolation => .protocolViolation

/-- CAUSE after an error: written by CommunicationError alone (R16, R200). -/
def Raised.causeAfter (old : Cause) : Raised → Cause
  | .communication c => c
  | _ => old

/-- STATUS <- (ERR, kind): the report of R15 and R69. -/
def reportError (k : ErrKind) (s : State) : State := { s with status := { state := .err, err := k } }

/-- `raise E(info)` (R200), the one way an operation takes an error: STATUS reports it, CAUSE is written if it is a
CommunicationError, SEQ <- (NONE, -, IDLE), and everything else keeps its value. There is no vector, no mode change, and no
return operation (R200, R202): the next accepted word runs as after any other end. -/
def raise (e : Raised) (s : State) : State :=
  reportError e.kind { leaveOperation s with cause := e.causeAfter s.cause }

/-- Append an event to the trace (R53). -/
def emit (e : Event) (s : State) : State := { s with trace := e :: s.trace }

/-- A bus event with its outcome filled in; a delay has none (R53, R112). -/
def Event.settle (o : EventOutcome) : Event → Event
  | .w frame _ => .w frame o
  | .wr out k _ => .wr out k o
  | .d ms => .d ms

/-- The newest event gets its outcome. -/
def settleNewest (o : EventOutcome) : List Event → List Event
  | [] => []
  | e :: es => e.settle o :: es

/-- The outcome a trace event shows for a port's answer (R110, R111). -/
def BusOutcome.shown : BusOutcome → EventOutcome
  | .ok data => .ok data
  | .busError c => .busError c
  | .timeout => .timeout

/-- The outstanding bus request is answered: its event gets the outcome (R53). -/
def settleRequest (o : EventOutcome) (s : State) : State := { s with trace := settleNewest o s.trace }

/-- The outstanding port request, if any, is abandoned (R97, R221): a bus request's event gets outcome Cancelled, a delay
leaves its event as it is. -/
def abandonRequest (s : State) : State :=
  if s.seq.phase = .attempt then settleRequest .cancelled s else s

end Sys2Proof.Machine
end

