-- ==== Sys2Proof/Machine/Operands.lean ====
section
/-! DEFINITION. Operand forms: the 16-bit chunk address (R162) and its bytes (R44), the frames (R63 to R66), the requested
lengths (R67), and the read port's views (R10, R32). -/

namespace Sys2Proof.Machine

/-- `lo8(v)` (00_scope.md section 6). -/
def lo8 (v : Half) : Byte := v.extractLsb' 0 8

/-- `hi8(v)` (00_scope.md section 6). -/
def hi8 (v : Half) : Byte := v.extractLsb' 8 8

/-- The 2-byte little-endian address of a frame (R44, R73). -/
def addressBytes (a : Half) : List Byte := [lo8 a, hi8 a]

/-- The device address of the chunk at OFF: (BASE + OFF) mod 2^16 (R162, R163). -/
def chunkAddress (s : State) : Half := s.base + s.off

/-- Data bytes of the next chunk: min(32, REM) (R160). -/
def chunkSize (s : State) : Nat := min Config.chunkMax s.rem.toNat

/-- The MAC write framing of R63 without its PEC byte: command byte, chunk length, address, data. -/
def macFrame (p : Params) (a : Half) (data : List Byte) : List Byte :=
  p.cmdMac :: BitVec.ofNat 8 (data.length + Config.addrBytes) :: addressBytes a ++ data

/-- The out-payload of the chunk at OFF (R63, R170). -/
def chunkFrame (s : State) : List Byte :=
  macFrame s.params (chunkAddress s) (memRead s .obuf s.off (chunkSize s))

/-- The out-payload of the select-write (R64, R176): R63's frame with no data, at BASE. -/
def selectFrame (s : State) : List Byte := macFrame s.params s.base []

/-- The out-payload of a block read: the command byte alone (R65). -/
def blockReadFrame (s : State) : List Byte := [s.params.cmdMac]

/-- Bytes before the data in a block read's in-frame: length, echoed address (R65). -/
def prefixBytes : Nat := 1 + Config.addrBytes

/-- In-payload bytes of a block read: 3 + m (R65, R177). -/
def blockReadBytes (s : State) : Nat :=
  prefixBytes + (if s.params.rdFullFrame then Config.chunkMax else chunkSize s)

/-- The data a block read keeps: data[3..3+n] (R178). -/
def blockData (s : State) (data : List Byte) : List Byte := (data.drop prefixBytes).take (chunkSize s)

/-- k, the in-bytes the outstanding request asks for: nin + pec_on_read for a write-then-read (R141), none for a write. -/
def requestedBytes (s : State) : Nat :=
  match s.scratch.call.kind with
  | .w => 0
  | .wr => s.scratch.call.nin + s.cfgs.pecOnRead.toNat

/-- A configuration record packed as R13 packs it: bits 15:10 read as zero. -/
def packCfg (c : CfgRecord) : Word :=
  c.timeoutMs ++ 0#6 ++ BitVec.ofBool c.pecOnWrite ++ BitVec.ofBool c.pecOnRead ++ c.maxRetries

/-- STATE's code (R15). -/
def OpState.code : OpState → BitVec 2
  | .idle => 0#2
  | .busy => 1#2
  | .done => 2#2
  | .err => 3#2

/-- ERR's code (R15, R190). -/
def ErrKind.code : ErrKind → BitVec 3
  | .none => 0#3
  | .communication => 1#3
  | .checksum => 2#3
  | .timeout => 3#3
  | .protocolViolation => 4#3
  | .deviceReported => 5#3

/-- STATUS packed as R15 packs it: bits 31:5 read as zero. -/
def Status.pack (st : Status) : Word := 0#27 ++ st.err.code ++ st.state.code

/-- CAUSE as a read delivers it: the register while STATUS.ERR = 1, an unspecified value otherwise (R16; log entry 6). -/
def causeView (s : State) : Cause :=
  if s.status.err = .communication then s.cause else s.params.toCause (Config.unspecifiedCause s.drawn)

/-- The register with read index i, zero-extended to 32 bits (R10, R32); none for an index that does not exist. -/
def readPort (s : State) : Nat → Option Word
  | 0 => some (s.crc.setWidth 32)
  | 1 => some ((BitVec.ofBool s.z).setWidth 32)
  | 2 => some s.status.pack
  | 3 => some (causeView s)
  | 4 => some (packCfg s.cfg)
  | 5 => some (packCfg s.cfgs)
  | 6 => some (s.base.setWidth 32)
  | 7 => some (s.len.setWidth 32)
  | 8 => some (s.ilen.setWidth 32)
  | 9 => some (s.off.setWidth 32)
  | 10 => some (s.rem.setWidth 32)
  | 11 => some (s.retry.setWidth 32)
  | _ => none

end Sys2Proof.Machine
end

