-- ==== Sys2Proof/Machine/Transport.lean ====
section
/-! DEFINITION. The retryable transport core: `Transact` (R114) cut at its port calls into the engine's steps (R118), with the
PEC layer's two hooks `BuildW` (R140) and `CheckR` (R141). -/

namespace Sys2Proof.Machine

/-- How an attempt failed (R115). -/
inductive Failure where
  | bus (cause : Cause)
  | tmo
  | mismatch
  deriving DecidableEq, Repr

/-- The error an exhausted budget raises for the last attempt's failure (R116). -/
def Failure.raised : Failure → Raised
  | .bus c => .communication c
  | .tmo => .timeout
  | .mismatch => .checksum

/-- `BuildW(out)` (R140): the frame. -/
def buildFrame (s : State) (out : List Byte) : List Byte :=
  if s.cfgs.pecOnWrite then out ++ [crc8 (coverW s.params out)] else out

/-- `BuildW(out)` (R140): what it leaves in CRC. -/
def buildCrc (s : State) (out : List Byte) : Byte :=
  if s.cfgs.pecOnWrite then crc8 (coverW s.params out) else s.crc

/-- Is the running call a PEC-protected write-then-read, whose in-frame `CheckR` verifies (R141, R143)? -/
def checksRead (s : State) : Bool := s.scratch.call.kind == .wr && s.cfgs.pecOnRead

/-- An attempt is issued (R118), the top of R114's loop: build the frame of the running call and hand it to the bus port.
The event's outcome is filled in when the port answers. CRC is written at every attempt of a protected write, as R140 and R145
say; R144's last sentence, read literally, keeps CRC if every such attempt ends in BusError or Timeout (DESIGN CHOICE, log
entry 18). A protected write-then-read clears CRC here, as R11 and D19 say of the start of every protected attempt, and the CRC it
found is held, for R141 and V2.6-3 have it back after BusError and Timeout (DEDUCED, log entry 19). -/
def issueAttempt (s : State) : State :=
  let out := s.scratch.call.out
  match s.scratch.call.kind with
  | .w =>
    emit (.w (buildFrame s out) .pending)
      { s with
        crc := buildCrc s out
        seq := { s.seq with phase := .attempt }
        scratch := { s.scratch with txb := buildFrame s out, rxb := [], heldCrc := s.crc } }
  | .wr =>
    emit (.wr out (requestedBytes s) .pending)
      { s with
        crc := if checksRead s then Config.pecInit else s.crc
        seq := { s.seq with phase := .attempt }
        scratch := { s.scratch with txb := out, rxb := [], heldCrc := s.crc } }

/-- `Transact(kind, out, nin)` begins (R113, R114): the full budget, then the first attempt. -/
def beginTransaction (c : Call) (s : State) : State :=
  issueAttempt { s with retry := s.cfgs.maxRetries, scratch := { Scratch.empty with call := c } }

/-- The checksum `CheckR` recomputes over an in-frame (R141). -/
def readCrc (s : State) (inp : List Byte) : Byte :=
  crc8 (coverWR s.params s.scratch.call.out (inp.take s.scratch.call.nin))

/-- The trailing byte `CheckR` compares with: in[nin] (R141). -/
def trailingByte (s : State) (inp : List Byte) : Byte := inp.getD s.scratch.call.nin 0#8

/-- `CheckR` (R141): what an answered attempt leaves in CRC, Z and RXB. -/
def afterCheck (inp : List Byte) (s : State) : State :=
  let s := { s with scratch := { s.scratch with rxb := inp } }
  if checksRead s then
    { s with crc := readCrc s inp, z := matchFlag (readCrc s inp) (trailingByte s inp) }
  else s

/-- How an attempt with this outcome failed; none if it succeeded (R114, R115, R141). -/
def failureOf (s : State) : BusOutcome → Option Failure
  | .busError c => some (.bus c)
  | .timeout => some .tmo
  | .ok inp =>
    if checksRead s && !matchFlag (readCrc s inp) (trailingByte s inp) then some .mismatch else none

/-- A PEC-protected write-then-read attempt ended with no answer: CRC is again what the attempt found, as if untouched (R141,
R144, V2.6-3; log entry 19). -/
def restoreCrc (s : State) : State := { s with crc := if checksRead s then s.scratch.heldCrc else s.crc }

/-- What an attempt's outcome does to the block's registers before the loop looks at it: an answer is checked, a bus error or
a timeout leaves CRC and Z as the attempt found them (R12, R141). So an earlier mismatch of the transaction stays readable in CRC and Z when the last
attempt ends without an answer, where R116's last sentence lets earlier failed attempts leave no record but RETRY (DEDUCED, log
entry 21). -/
def receive (o : BusOutcome) (s : State) : State :=
  match o with
  | .ok inp => afterCheck inp s
  | .busError _ => restoreCrc s
  | .timeout => restoreCrc s

/-- A failed attempt (R114, R118 s3): with budget left, one retry is consumed and the backoff is requested; with none, the
transaction fails and its operation raises the error of this last failure (R116, R165). -/
def afterFailure (f : Failure) (s : State) : State :=
  if s.retry = 0#8 then raise f.raised s
  else
    emit (.d s.params.backoffMs)
      { s with retry := s.retry - 1#8, seq := { s.seq with phase := .backoff } }

end Sys2Proof.Machine
end

