-- ==== Sys2Proof/Machine/Engine.lean ====
section
/-! DEFINITION. The engine's steps (R118): s1 issues the next transaction's first attempt (R145, R146, R170, R175), s2 completes
an attempt (with s3 in it), s4 completes a backoff. Between s2 and s1 the operation is BUSY with PHASE = IDLE (log entry 2). -/

namespace Sys2Proof.Machine

/-- The `Transact` call that the registers and OBUF determine for the running operation (R145, R146, R170, R175, R176). -/
def callOf (s : State) : Call :=
  match s.seq.opk with
  | .none => Scratch.empty.call
  | .xfw => { kind := .w, out := memRead s .obuf 0#16 s.len.toNat, nin := 0 }
  | .xfwr => { kind := .wr, out := memRead s .obuf 0#16 s.len.toNat, nin := s.ilen.toNat }
  | .dfwr => { kind := .w, out := chunkFrame s, nin := 0 }
  | .dfrd =>
    match s.seq.stage with
    | .blk => { kind := .wr, out := blockReadFrame s, nin := blockReadBytes s }
    | _ => { kind := .w, out := selectFrame s, nin := 0 }

/-- May ENGINE take s1: does an operation run with no port request outstanding (R27, R118)? -/
def engineReady (s : State) : Bool := s.busy && s.seq.phase == .idle

/-- s1, issue attempt (R118): the framing logic up to the next port call, which is the first attempt of the next transaction. -/
def issueNext (s : State) : State := beginTransaction (callOf s) s

/-- The head of the loop of DF.WR and DF.RD (R170, R175): DONE when no byte remains, else PHASE stays IDLE for s1. -/
def continueLoop (s : State) : State := if s.rem = 0#16 then finish s else s

/-- A block read succeeded: its data go to IBUF at OFF (R178, R179) and are counted. -/
def storeChunk (data : List Byte) (s : State) : State :=
  advanceProgress (chunkSize s) { s with ibuf := memWrite s.ibuf s.off (blockData s data) }

/-- `Transact` returned Ok(data): the rest of the running operation up to its next port call or its end (R118 s2). -/
def afterSuccess (data : List Byte) (s : State) : State :=
  match s.seq.opk with
  | .none => s
  | .xfw => finish s
  | .xfwr => finish { s with ibuf := memWrite s.ibuf 0#16 data }
  | .dfwr => continueLoop (advanceProgress (chunkSize s) s)
  | .dfrd =>
    match s.seq.stage with
    | .blk => continueLoop (storeChunk data s)
    | _ => continueLoop { s with seq := { s.seq with stage := .blk } }

/-- The in-payload in[0..nin] of an answer (R114). -/
def payloadOf (s : State) : BusOutcome → List Byte
  | .ok inp => inp.take s.scratch.call.nin
  | .busError _ => []
  | .timeout => []

/-- The outcome of the outstanding attempt is in: it enters the trace (R53), and an answer is checked (R141). -/
def answered (o : BusOutcome) (s : State) : State :=
  receive o (settleRequest o.shown { s with seq := { s.seq with phase := .idle } })

/-- s2, complete attempt (R118): with the outcome in, the transaction ends, retries or fails (R114). -/
def completeAttempt (o : BusOutcome) (s : State) : State :=
  match failureOf s o with
  | none => afterSuccess (payloadOf s o) (releaseBuffers (answered o s))
  | some f => afterFailure f (answered o s)

/-- s4, complete backoff (R118): PHASE <- IDLE, then the attempt is reissued identically (R120). -/
def completeBackoff (s : State) : State := issueAttempt { s with seq := { s.seq with phase := .idle } }

end Sys2Proof.Machine
end

