-- ==== Sys2Proof/Machine/ChunkOps.lean ====
section
/-! DEFINITION. DF.WR and DF.RD (R170, R175). The step that accepts the word takes the snapshot and sets OFF and REM (R31), or
ends DONE at once when LEN is 0 (R181); ENGINE's s1 issues the first attempt (R118; log entry 2). Every BASE and LEN is run (R71, R163; log entry 4). -/

namespace Sys2Proof.Machine

/-- DF.WR accepted (R170). -/
def startChunkedWrite (s : State) : State := continueLoop (startProgress (startOperation .dfwr s))

/-- DF.RD accepted (R175). -/
def startChunkedRead (s : State) : State :=
  let s := startProgress (startOperation .dfrd s)
  if s.len = 0#16 then finish s else { s with seq := { s.seq with stage := .sel } }

/-- DF.WR (R170). -/
def execDfWr (s : State) : Host.Outcome State Fault Refusal := acceptUnlessBusy s (startChunkedWrite s)

/-- DF.RD (R175). -/
def execDfRd (s : State) : Host.Outcome State Fault Refusal := acceptUnlessBusy s (startChunkedRead s)

end Sys2Proof.Machine
end

