-- ==== Sys2Proof/Machine/ConfigOps.lean ====
section
/-! DEFINITION. CFG.RETRY, CFG.PEC, CFG.TMO (R91 to R93): accepted in every state, BUSY included (R90). None writes CFGS, so a
running operation does not see them (R98). -/

namespace Sys2Proof.Machine

/-- CFG.RETRY (R91). -/
def execCfgRetry (imm8 : Byte) (s : State) : Host.Outcome State Fault Refusal :=
  .next { s with cfg := { s.cfg with maxRetries := imm8 } }

/-- CFG.PEC (R92): both bits always written together. -/
def execCfgPec (r w : Bool) (s : State) : Host.Outcome State Fault Refusal :=
  .next { s with cfg := { s.cfg with pecOnRead := r, pecOnWrite := w } }

/-- CFG.TMO (R93). -/
def execCfgTmo (imm16 : Half) (s : State) : Host.Outcome State Fault Refusal :=
  .next { s with cfg := { s.cfg with timeoutMs := imm16 } }

end Sys2Proof.Machine
end

