-- ==== Sys2Proof/Machine/ControlOps.lean ====
section
/-! DEFINITION. ABORT (R97), an undefined word (R69), reset (R220, R221), and the host's and the environment's ports (R30 to R33,
R56, R110 to R112). -/

namespace Sys2Proof.Machine

/-- STATUS <- (IDLE, 0) (R97). -/
def clearReport (s : State) : State := { s with status := { state := .idle, err := .none } }

/-- ABORT takes effect (R97): the outstanding request is abandoned and the operation ends. -/
def cancelOperation (s : State) : State := clearReport (leaveOperation (abandonRequest s))

/-- ABORT (R97). It takes effect only at a suspension point (D23): presented between two attempts it stands on the command port
while ENGINE takes s1, and is presented again in ATTEMPT (log entry 20). In ATTEMPT and BACKOFF it ends the operation; when not
BUSY it clears the report. -/
def execAbort (s : State) : Host.Outcome State Fault Refusal :=
  if engineReady s then .next (presentNext (encode .abort) (issueNext s))
  else if s.busy then .next (cancelOperation s)
  else .next (clearReport s)

/-- An undefined command word (R69): a ProtocolViolation and nothing else; not accepted while BUSY (R90). -/
def undefinedWord (s : State) : Host.Outcome State Fault Refusal :=
  acceptUnlessBusy s (reportError .protocolViolation s)

/-- Reset applied to the block (R220, R221): as ABORT on the outstanding request, then every register at its reset value;
CAUSE unspecified, the host's buffers untouched. -/
def resetBlock (s : State) : State :=
  let s := abandonRequest s
  { s with
    crc := Config.pecInit
    z := false
    status := { state := .idle, err := .none }
    cause := s.params.toCause (Config.unspecifiedCause s.drawn)
    cfg := s.params.cfgReset
    cfgs := s.params.cfgReset
    base := 0#16
    len := 0#16
    ilen := 0#16
    off := 0#16
    rem := 0#16
    retry := 0#8
    seq := Seq.idle
    scratch := Scratch.empty
    drawn := s.drawn + 1 }

/-- Does a read of register i deliver an unspecified value (R16)? -/
def readsUnspecified (s : State) (i : Nat) : Bool := i == 3 && s.status.err != .communication

/-- The host reads a register (R32): at any time, no side effect on the block. -/
def hostReadReg (i : Nat) (s : State) : Host.Outcome State Fault Refusal :=
  match readPort s i with
  | none => .refused .noSuchRegister
  | some v =>
    .next { s with reads := .reg i v :: s.reads, drawn := if readsUnspecified s i then s.drawn + 1 else s.drawn }

/-- May the host load a byte of this buffer now (R56)? OBUF always, IBUF not while BUSY. -/
def mayLoad (s : State) : Space → Bool
  | .obuf => true
  | .ibuf => !s.busy

/-- The host loads a byte of a buffer (R30, R56). -/
def hostLoad (sp : Space) (a : Half) (s : State) : Host.Outcome State Fault Refusal :=
  if mayLoad s sp then .next { s with reads := .buf sp a (readByte s sp a) :: s.reads }
  else .refused .bufferOwnedByOperation

/-- A buffer's byte stored. -/
def storeByte (sp : Space) (a : Half) (v : Byte) (s : State) : State :=
  match sp with
  | .obuf => { s with obuf := s.obuf.put a.toNat v }
  | .ibuf => { s with ibuf := s.ibuf.put a.toNat v }

/-- The host stores a byte of a buffer (R30); refused while BUSY (R56, R228). -/
def hostStore (sp : Space) (a : Half) (v : Byte) (s : State) : Host.Outcome State Fault Refusal :=
  if s.busy then .refused .bufferOwnedByOperation else .next (storeByte sp a v s)

/-- Is a port request outstanding in this phase (R27, R30)? -/
def outstanding (s : State) (p : Phase) : Bool := s.busy && s.seq.phase == p

/-- ENGINE takes its turn (R30, R118 s1). -/
def engineIssues (s : State) : Host.Outcome State Fault Refusal :=
  if engineReady s then .next (issueNext s) else .fault .engineNotReady

/-- The bus port answers (R110, R111, R118 s2), keeping its contract: an outstanding request, Timeout only under a deadline, Ok
with exactly the bytes requested, BusError with a value of the type Cause. -/
def busAnswers (o : BusOutcome) (s : State) : Host.Outcome State Fault Refusal :=
  if outstanding s .attempt then
    match o with
    | .ok data =>
      if data.length = requestedBytes s then .next (completeAttempt o s) else .fault .answerLengthNotRequested
    | .busError c => if s.params.isCause c then .next (completeAttempt o s) else .fault .causeOutOfRange
    | .timeout => if s.cfgs.timeoutMs = 0#16 then .fault .timeoutWithoutDeadline else .next (completeAttempt o s)
  else .fault .unsolicitedBusAnswer

/-- The delay port completes the backoff (R112, R118 s4). -/
def delayEnds (s : State) : Host.Outcome State Fault Refusal :=
  if outstanding s .backoff then .next (completeBackoff s) else .fault .unsolicitedDelayEnd

end Sys2Proof.Machine
end

