-- ==== Sys2Proof/Machine/OperandOps.lean ====
section
/-! DEFINITION. SET.BASE, SET.LEN, SET.ILEN (R94 to R96): every 16-bit value is taken; not accepted while BUSY (R90). -/

namespace Sys2Proof.Machine

/-- SET.BASE (R94). -/
def execSetBase (imm16 : Half) (s : State) : Host.Outcome State Fault Refusal :=
  acceptUnlessBusy s { s with base := imm16 }

/-- SET.LEN (R95). -/
def execSetLen (imm16 : Half) (s : State) : Host.Outcome State Fault Refusal :=
  acceptUnlessBusy s { s with len := imm16 }

/-- SET.ILEN (R96). -/
def execSetIlen (imm16 : Half) (s : State) : Host.Outcome State Fault Refusal :=
  acceptUnlessBusy s { s with ilen := imm16 }

end Sys2Proof.Machine
end

