-- ==== Sys2Proof/Machine/PecOps.lean ====
section
/-! DEFINITION. PEC.CLR, PEC.UPD, PEC.ADW, PEC.ADR, PEC.CHK (R135 to R139): the host's use of the accumulator, which the engine
shares (R11), so none is accepted while BUSY (R135). -/

namespace Sys2Proof.Machine

/-- PEC.CLR (R135). -/
def execPecClr (s : State) : Host.Outcome State Fault Refusal :=
  acceptUnlessBusy s { s with crc := Config.pecInit }

/-- PEC.UPD (R136). -/
def execPecUpd (imm8 : Byte) (s : State) : Host.Outcome State Fault Refusal :=
  acceptUnlessBusy s { s with crc := crc8Update s.crc imm8 }

/-- PEC.ADW (R137). -/
def execPecAdw (s : State) : Host.Outcome State Fault Refusal :=
  acceptUnlessBusy s { s with crc := crc8Update s.crc (addrWrite s.params) }

/-- PEC.ADR (R138). -/
def execPecAdr (s : State) : Host.Outcome State Fault Refusal :=
  acceptUnlessBusy s { s with crc := crc8Update s.crc (addrRead s.params) }

/-- PEC.CHK (R139). -/
def execPecChk (imm8 : Byte) (s : State) : Host.Outcome State Fault Refusal :=
  acceptUnlessBusy s { s with z := matchFlag s.crc imm8 }

end Sys2Proof.Machine
end

