-- ==== Sys2Proof/Machine/RawOps.lean ====
section
/-! DEFINITION. XF.W and XF.WR (R145, R146): one raw transaction. The step that accepts the word takes the snapshot and checks the
sizes (R31, R190, R201); ENGINE's s1 reads OBUF and issues the attempt (R118; log entry 2). -/

namespace Sys2Proof.Machine

/-- XF.W's frame fits TXB (R145). -/
def rawWriteFits (s : State) : Bool := decide (s.len.toNat + s.cfgs.pecOnWrite.toNat ≤ Config.txbSize)

/-- XF.WR's two frames fit TXB and RXB (R146). -/
def rawReadFits (s : State) : Bool :=
  decide (s.len.toNat ≤ Config.txbSize) && decide (s.ilen.toNat + s.cfgs.pecOnRead.toNat ≤ Config.rxbSize)

/-- XF.W accepted (R145). -/
def startRawWrite (s : State) : State :=
  let s := startOperation .xfw s
  if rawWriteFits s then s else raise .protocolViolation s

/-- XF.WR accepted (R146). -/
def startRawRead (s : State) : State :=
  let s := startOperation .xfwr s
  if rawReadFits s then s else raise .protocolViolation s

/-- XF.W (R145). -/
def execXfW (s : State) : Host.Outcome State Fault Refusal := acceptUnlessBusy s (startRawWrite s)

/-- XF.WR (R146). -/
def execXfWr (s : State) : Host.Outcome State Fault Refusal := acceptUnlessBusy s (startRawRead s)

end Sys2Proof.Machine
end

