-- ==== Sys2Proof/Machine/Dispatch.lean ====
section
/-! DEFINITION. One arm per operation (R62), each one call of its meaning. -/

namespace Sys2Proof.Machine

def exec (i : Instr) (s : State) : Host.Outcome State Fault Refusal :=
  match i with
  | .cfgRetry imm8 => Sys2Proof.Machine.execCfgRetry imm8 s
  | .cfgPec r w => Sys2Proof.Machine.execCfgPec r w s
  | .cfgTmo imm16 => Sys2Proof.Machine.execCfgTmo imm16 s
  | .setBase imm16 => Sys2Proof.Machine.execSetBase imm16 s
  | .setLen imm16 => Sys2Proof.Machine.execSetLen imm16 s
  | .setIlen imm16 => Sys2Proof.Machine.execSetIlen imm16 s
  | .pecClr => Sys2Proof.Machine.execPecClr s
  | .pecUpd imm8 => Sys2Proof.Machine.execPecUpd imm8 s
  | .pecAdw => Sys2Proof.Machine.execPecAdw s
  | .pecAdr => Sys2Proof.Machine.execPecAdr s
  | .pecChk imm8 => Sys2Proof.Machine.execPecChk imm8 s
  | .xfW => Sys2Proof.Machine.execXfW s
  | .xfWr => Sys2Proof.Machine.execXfWr s
  | .dfWr => Sys2Proof.Machine.execDfWr s
  | .dfRd => Sys2Proof.Machine.execDfRd s
  | .abort => Sys2Proof.Machine.execAbort s

end Sys2Proof.Machine
end

