-- ==== Sys2Proof/Machine/Agents.lean ====
section
/-! DEFINITION. What each agent's turn does to the block (R30): a command word is decoded and run, every other turn goes to its
port's operation. -/

namespace Sys2Proof.Machine

/-- A command word presented on the command port (R31, R69, R201): decoded, then run or, if undefined, reported. -/
def presentWord (w : Word) (s : State) : Host.Outcome State Fault Refusal :=
  match decode w with
  | .ok i => exec i s
  | .error _ => undefinedWord s

/-- One agent's turn. -/
def perform (i : Input) (s : State) : Host.Outcome State Fault Refusal :=
  match i with
  | .engine => engineIssues s
  | .command w => presentWord w s
  | .busAnswer o => busAnswers o s
  | .delayDone => delayEnds s
  | .readReg i => hostReadReg i s
  | .loadBuf sp a => hostLoad sp a s
  | .storeBuf sp a v => hostStore sp a v s
  | .reset => .next (resetBlock s)

end Sys2Proof.Machine
end

