-- ==== Sys2Proof/Machine/Step.lean ====
section
/-! DEFINITION. One step of the machine: the next turn of the schedule is taken and performed. With none scheduled ENGINE takes
its own step s1 if it has one, and otherwise the block waits, for a command word or for a port's answer, and nothing changes
(R117, R118, R214, U13; log entry 3). -/

namespace Sys2Proof.Machine

/-- One step. -/
def step (s : State) : Host.Outcome State Fault Refusal :=
  match s.inputs with
  | [] => .next (if engineReady s then issueNext s else s)
  | i :: rest => perform i { s with inputs := rest }

/-- `s` with the table word presented next on the command port: the block fetches nothing (R25), so this is where the next
operation comes from. -/
def State.withFetchWord (s : State) (nbits w : Nat) : State := presentNext (tableWord nbits w) s

end Sys2Proof.Machine
end

