-- ==== Sys2Proof/Safety.lean ====
section
/-! DEFINITION. What claims call a good state and a careful environment: the invariant `Inv`, which every step keeps, and the
premises by which the spec's `refuse` entries (file 93) are honoured: a careful host and ports that keep their contracts. -/

namespace Sys2Proof.Machine

/-- STATUS is consistent (R15): ERR is nonzero exactly in ERR, and code 5 is never set (R205). -/
structure StatusOk (s : State) : Prop where
  errIffErr : s.status.err ≠ .none ↔ s.status.state = .err
  neverDeviceReported : s.status.err ≠ .deviceReported

/-- STATUS and SEQ agree between steps (R26, R27): BUSY iff an operation runs; a port request is outstanding only while one
does; STAGE stands for DF.RD alone. -/
structure SeqOk (s : State) : Prop where
  busyIffRunning : s.status.state = .busy ↔ s.seq.opk ≠ .none
  waitingIsBusy : s.seq.phase ≠ .idle → s.status.state = .busy
  stageIffRead : s.seq.stage ≠ .none ↔ s.seq.opk = .dfrd

/-- The out-frame of every attempt of the running call (R114, R120). -/
def frameOf (s : State) : List Byte :=
  match s.scratch.call.kind with
  | .w => buildFrame s s.scratch.call.out
  | .wr => s.scratch.call.out

/-- The frame buffers (R23, R24): within their sizes, as a running raw transfer's operands are (R145, R146); holding the running
call's frame, empty between transactions; CRC is the PEC byte of a protected write in progress (R140, R144), and cleared while a
protected write-then-read is outstanding (R11). -/
structure BuffersOk (s : State) : Prop where
  txbFits : s.scratch.txb.length ≤ Config.txbSize
  rxbFits : s.scratch.rxb.length ≤ Config.rxbSize
  requestFits : requestedBytes s ≤ Config.rxbSize
  rawWriteFits : s.seq.opk = .xfw → rawWriteFits s = true
  rawReadFits : s.seq.opk = .xfwr → rawReadFits s = true
  idleEmpty : s.seq.phase = .idle → s.scratch = Scratch.empty
  callDetermined : s.seq.phase ≠ .idle → s.scratch.call = callOf s
  txbIsFrame : s.seq.phase ≠ .idle → s.scratch.txb = frameOf s
  crcIsPec : s.seq.phase ≠ .idle → s.scratch.call.kind = .w → s.cfgs.pecOnWrite = true →
    s.crc = crc8 (coverW s.params s.scratch.call.out)
  crcIsCleared : s.seq.phase = .attempt → checksRead s = true → s.crc = Config.pecInit

/-- The progress of a running chunked operation (R21, R161, R175): OFF + REM = LEN, chunks start at multiples of 32, bytes
remain, and a select-write is sent at OFF = 0. -/
structure ProgressOk (s : State) : Prop where
  total : s.seq.opk = .dfwr ∨ s.seq.opk = .dfrd → s.off.toNat + s.rem.toNat = s.len.toNat
  aligned : s.seq.opk = .dfwr ∨ s.seq.opk = .dfrd → s.off.toNat % Config.chunkMax = 0
  remains : s.seq.opk = .dfwr ∨ s.seq.opk = .dfrd → s.rem ≠ 0#16
  selectFirst : s.seq.stage = .sel → s.off = 0#16

/-- The budget of a running operation never exceeds the snapshot's (R22, R113). -/
def RetryOk (s : State) : Prop := s.seq.phase ≠ .idle → s.retry.toNat ≤ s.cfgs.maxRetries.toNat

/-- Is this event a bus request still outstanding? -/
def Event.isPending : Event → Bool
  | .w _ .pending => true
  | .wr _ _ .pending => true
  | _ => false

/-- The event a request just issued shows (R53). -/
def requestEvent (s : State) : Event :=
  match s.scratch.call.kind with
  | .w => .w s.scratch.txb .pending
  | .wr => .wr s.scratch.txb (requestedBytes s) .pending

/-- The trace (R30, R54): at most the newest event is outstanding, and it is the running call's request exactly in ATTEMPT. -/
structure TraceOk (s : State) : Prop where
  attempt : s.seq.phase = .attempt → s.trace.head? = some (requestEvent s)
  backoff : s.seq.phase = .backoff → s.trace.head? = some (.d s.params.backoffMs)
  settled : ∀ e ∈ (if s.seq.phase = .attempt then s.trace.tail else s.trace), e.isPending = false

/-- CAUSE is a value of the type Cause (P13, R16). -/
def CauseOk (s : State) : Prop := s.params.isCause s.cause = true

/-- Both buffers are in canonical form. -/
structure MemoryOk (s : State) : Prop where
  obuf : s.obuf.wf = true
  ibuf : s.ibuf.wf = true

/-- The invariant. -/
structure Inv (s : State) : Prop where
  status : StatusOk s
  cause : CauseOk s
  seq : SeqOk s
  buffers : BuffersOk s
  progress : ProgressOk s
  retry : RetryOk s
  trace : TraceOk s
  memory : MemoryOk s

/-- Is this an operation the command port accepts while BUSY (R90)? -/
def Instr.acceptedWhileBusy : Instr → Bool
  | .cfgRetry _ => true
  | .cfgPec _ _ => true
  | .cfgTmo _ => true
  | .abort => true
  | .setBase _ => false
  | .setLen _ => false
  | .setIlen _ => false
  | .pecClr => false
  | .pecUpd _ => false
  | .pecAdw => false
  | .pecAdr => false
  | .pecChk _ => false
  | .xfW => false
  | .xfWr => false
  | .dfWr => false
  | .dfRd => false

/-- The transfer stays inside the 16-bit window (R233, U6): the premise D12 asks a model for. -/
def InWindow (s : State) : Prop := s.base.toNat + s.len.toNat ≤ 0x10000

/-- The command port accepts this word (R90): any word when not BUSY, CFG.* and ABORT while BUSY. -/
def WordAccepted (s : State) (w : Word) : Prop :=
  s.busy = true → ∃ i, decode w = .ok i ∧ Instr.acceptedWhileBusy i = true

/-- A command word a correct host presents (U5 to U7): defined, accepted, a raw transfer that fits, a chunked one in the
window. -/
def CarefulWord (s : State) (w : Word) : Prop :=
  WordAccepted s w ∧ ∃ i, decode w = .ok i ∧
    (i = .xfW → rawWriteFits { s with cfgs := s.cfg } = true) ∧
    (i = .xfWr → rawReadFits { s with cfgs := s.cfg } = true) ∧
    (i = .dfWr ∨ i = .dfRd → InWindow s)

/-- The bus port keeps its contract (R110, R111, R117, P13). -/
def AnswerOk (s : State) (o : BusOutcome) : Prop :=
  outstanding s .attempt = true ∧
    (∀ data, o = .ok data → data.length = requestedBytes s) ∧ (o = .timeout → s.cfgs.timeoutMs ≠ 0#16) ∧
    (∀ c, o = .busError c → s.params.isCause c = true)

/-- A turn the spec gives its agent (R30, R56, R90, R118, U7, U9, U11, U13). -/
def InputOk (s : State) : Input → Prop
  | .engine => engineReady s = true
  | .command w => WordAccepted s w
  | .busAnswer o => AnswerOk s o
  | .delayDone => outstanding s .backoff = true
  | .readReg i => i < 12
  | .loadBuf .obuf _ => True
  | .loadBuf .ibuf _ => s.busy = false
  | .storeBuf _ _ _ => s.busy = false
  | .reset => True

end Sys2Proof.Machine
end

