-- ==== Sys2Proof/Safety/Claims.lean ====
section
/-! DEFINITION. The vocabulary of the statements, written from the spec and apart from the meanings: the opcode map as rows of
match and mask (R62), the bit-serial accumulator (R131), the schedules and traces of the counting and chunking laws (R121, R161,
R179), and the spec's ideal gauge T0 (95_test_vectors.md section 2.1), a premise about the environment that no step uses. -/

namespace Sys2Proof.Claims

open Sys2Proof.Machine

/-- A row of R62: match, mask. -/
structure Row where
  pat : Word
  mask : Word
  deriving DecidableEq, Repr

/-- "a word w selects the row when w & mask = match" (R62). -/
def Row.selects (r : Row) (w : Word) : Bool := w &&& r.mask == r.pat

/-- An operation's row of R62. -/
def rowOf : Instr → Row
  | .cfgRetry _ => ⟨0x01000000#32, 0xFFFFFF00#32⟩
  | .cfgPec _ _ => ⟨0x02000000#32, 0xFFFFFFFC#32⟩
  | .cfgTmo _ => ⟨0x03000000#32, 0xFFFF0000#32⟩
  | .setBase _ => ⟨0x04000000#32, 0xFFFF0000#32⟩
  | .setLen _ => ⟨0x05000000#32, 0xFFFF0000#32⟩
  | .setIlen _ => ⟨0x06000000#32, 0xFFFF0000#32⟩
  | .pecClr => ⟨0x10000000#32, 0xFFFFFFFF#32⟩
  | .pecUpd _ => ⟨0x11000000#32, 0xFFFFFF00#32⟩
  | .pecAdw => ⟨0x12000000#32, 0xFFFFFFFF#32⟩
  | .pecAdr => ⟨0x13000000#32, 0xFFFFFFFF#32⟩
  | .pecChk _ => ⟨0x14000000#32, 0xFFFFFF00#32⟩
  | .xfW => ⟨0x20000000#32, 0xFFFFFFFF#32⟩
  | .xfWr => ⟨0x21000000#32, 0xFFFFFFFF#32⟩
  | .dfWr => ⟨0x30000000#32, 0xFFFFFFFF#32⟩
  | .dfRd => ⟨0x31000000#32, 0xFFFFFFFF#32⟩
  | .abort => ⟨0x40000000#32, 0xFFFFFFFF#32⟩

/-- The 16 rows of R62. -/
def rows : List Row :=
  [rowOf (.cfgRetry 0), rowOf (.cfgPec false false), rowOf (.cfgTmo 0), rowOf (.setBase 0), rowOf (.setLen 0),
    rowOf (.setIlen 0), rowOf .pecClr, rowOf (.pecUpd 0), rowOf .pecAdw, rowOf .pecAdr, rowOf (.pecChk 0)] ++
  [rowOf .xfW, rowOf .xfWr, rowOf .dfWr, rowOf .dfRd, rowOf .abort]

/-- A word no row selects (R69). -/
def UndefinedWord (w : Word) : Prop := ∀ r ∈ rows, r.selects w = false

/-- The classes the frame statement groups the operations by. -/
inductive OpClass where
  | config | setBase | setLen | setIlen | accumulate | compare | raw | chunked | control
  deriving DecidableEq, Repr

/-- An operation's class. -/
def classOf : Instr → OpClass
  | .cfgRetry _ => .config
  | .cfgPec _ _ => .config
  | .cfgTmo _ => .config
  | .setBase _ => .setBase
  | .setLen _ => .setLen
  | .setIlen _ => .setIlen
  | .pecClr => .accumulate
  | .pecUpd _ => .accumulate
  | .pecAdw => .accumulate
  | .pecAdr => .accumulate
  | .pecChk _ => .compare
  | .xfW => .raw
  | .xfWr => .raw
  | .dfWr => .chunked
  | .dfRd => .chunked
  | .abort => .control

/-- The bit-serial accumulator of R131, one step per message bit. -/
def serialStep (c : Byte) (b : Bool) : Byte :=
  if c.getLsbD 7 != b then (c <<< 1) ^^^ 0x07#8 else c <<< 1

/-- The eight steps of R131's bit-serial form, from bit 7 down to bit 0. -/
def crcSerial (c b : Byte) : Byte :=
  [7, 6, 5, 4, 3, 2, 1, 0].foldl (fun c i => serialStep c (b.getLsbD i)) c

/-- The byte string with bit `k` of byte `i` flipped. -/
def flipBit (s : List Byte) (i k : Nat) : List Byte :=
  s.modify i (fun b => b ^^^ (1#8 <<< k))

/-- STATE's numbers (R15). -/
def stateNumber : OpState → Nat
  | .idle => 0
  | .busy => 1
  | .done => 2
  | .err => 3

/-- ERR's numbers (R15, R190). -/
def errNumber : ErrKind → Nat
  | .none => 0
  | .communication => 1
  | .checksum => 2
  | .timeout => 3
  | .protocolViolation => 4
  | .deviceReported => 5

/-- Failing answers, each followed by the end of its backoff (R121). -/
def retryInputs (fails : List BusOutcome) : List Input :=
  fails.flatMap (fun o => [.busAnswer o, .delayDone])

/-- The events of retried attempts, oldest first: each attempt's request with its outcome, then the delay (R121). -/
def retryEvents (request : Event) (ms : Nat) (fails : List BusOutcome) : List Event :=
  fails.flatMap (fun o => [request.settle o.shown, .d ms])

/-- The in-frame of the running write-then-read verifies (R141): its last byte is the checksum of [AW], the out-payload, [AR] and
the bytes before it. -/
def Verifies (s : State) (data : List Byte) : Prop :=
  data.getLast? =
    some (crc8 ([addrWrite s.params] ++ s.scratch.call.out ++ [addrRead s.params] ++ data.dropLast))

/-- An answer the port may give to the outstanding request that makes the attempt fail (R115, R142): BusError, Timeout, or, on a
PEC-protected write-then-read, an in-frame that does not verify. -/
def FailingAnswer (s : State) (o : BusOutcome) : Prop :=
  AnswerOk s o ∧
    ((∃ c, o = .busError c) ∨ o = .timeout ∨
      ∃ data, o = .ok data ∧ s.scratch.call.kind = .wr ∧ s.cfgs.pecOnRead = true ∧ ¬Verifies s data)

/-- An answer the port may give to the outstanding request that makes the attempt succeed (R114, R141): Ok, with an in-frame that
verifies if the attempt is a PEC-protected write-then-read. -/
def PassingAnswer (s : State) (o : BusOutcome) : Prop :=
  AnswerOk s o ∧
    ∃ data, o = .ok data ∧ (s.scratch.call.kind = .wr → s.cfgs.pecOnRead = true → Verifies s data)

/-- CRC after an attempt that got no answer (R140, R141): what a protected write-then-read found when it was issued, and else CRC
as it is. -/
def crcUnanswered (s : State) : Byte :=
  if s.scratch.call.kind = .wr ∧ s.cfgs.pecOnRead = true then s.scratch.heldCrc else s.crc

/-- The number of chunks of a transfer: ceil(LEN / 32) (R161). -/
def chunkCount (s : State) : Nat := (s.len.toNat + 31) / 32

/-- The data bytes of chunk j: min(32, LEN - 32 j) (R161). -/
def chunkLength (s : State) (j : Nat) : Nat := min 32 (s.len.toNat - 32 * j)

/-- The out-payload of chunk j of a chunked write (R63, R161, R162). -/
def chunkPayload (s : State) (j : Nat) : List Byte :=
  [s.params.cmdMac, BitVec.ofNat 8 (chunkLength s j + 2), (s.base + BitVec.ofNat 16 (32 * j)).extractLsb' 0 8,
    (s.base + BitVec.ofNat 16 (32 * j)).extractLsb' 8 8] ++
  memRead s .obuf (BitVec.ofNat 16 (32 * j)) (chunkLength s j)

/-- A write's frame: the payload, with its PEC byte iff pec_on_write (R63, R64, R140), under configuration `c`. -/
def wireFrame (p : Params) (c : CfgRecord) (payload : List Byte) : List Byte :=
  if c.pecOnWrite then payload ++ [crc8 (addrWrite p :: payload)] else payload

/-- What s1 makes of the state when it starts a write transaction (R113, R114, R140): the full budget, the frame with its PEC byte
iff pec_on_write, CRC that byte, the request in the trace, PHASE = ATTEMPT. -/
def writeIssued (s : State) (payload : List Byte) : State :=
  { s with
    retry := s.cfgs.maxRetries
    crc := if s.cfgs.pecOnWrite then crc8 (addrWrite s.params :: payload) else s.crc
    seq := { s.seq with phase := .attempt }
    scratch :=
      { call := { kind := .w, out := payload, nin := 0 }
        txb := wireFrame s.params s.cfgs payload
        rxb := []
        heldCrc := s.crc }
    trace := .w (wireFrame s.params s.cfgs payload) .pending :: s.trace }

/-- What s1 makes of the state when it starts a write-then-read transaction (R11, R113, R114, R141): the full budget, CRC cleared
iff pec_on_read, the request for nin + pec_on_read bytes with no PEC byte on its out half, PHASE = ATTEMPT. -/
def readIssued (s : State) (out : List Byte) (nin : Nat) : State :=
  { s with
    retry := s.cfgs.maxRetries
    crc := if s.cfgs.pecOnRead then 0x00#8 else s.crc
    seq := { s.seq with phase := .attempt }
    scratch := { call := { kind := .wr, out := out, nin := nin }, txb := out, rxb := [], heldCrc := s.crc }
    trace := .wr out (nin + s.cfgs.pecOnRead.toNat) .pending :: s.trace }

/-- Attempts with their answers: before each answer ENGINE takes its turn s1 (R118). -/
def answeredTurns (answers : List BusOutcome) : List Input :=
  answers.flatMap (fun o => [.engine, .busAnswer o])

/-- The W event of chunk j when its attempt succeeds. -/
def chunkWriteEvent (s : State) (j : Nat) : Event := .w (wireFrame s.params s.cfg (chunkPayload s j)) (.ok [])

/-- The out-payload of the select-write (R64). -/
def selectPayload (s : State) : List Byte :=
  [s.params.cmdMac, 0x02#8, s.base.extractLsb' 0 8, s.base.extractLsb' 8 8]

/-- The bytes block read j requests under the configuration the operation starts with (R65, R177). -/
def readRequest (s : State) (j : Nat) : Nat :=
  3 + (if s.params.rdFullFrame then 32 else chunkLength s j) + s.cfg.pecOnRead.toNat

/-- An in-frame that block read j may get and that verifies (R65, R141): the requested length, and under pec_on_read a last
byte equal to the checksum of [AW, CMD_MAC, AR] and the rest. -/
def GoodAnswer (s : State) (j : Nat) (a : List Byte) : Prop :=
  a.length = readRequest s j ∧
    (s.cfg.pecOnRead = true →
      a.getLast? = some (crc8 ([addrWrite s.params, s.params.cmdMac, addrRead s.params] ++ a.dropLast)))

/-- The WR event of a block read answered with `a`. -/
def blockReadEvent (s : State) (a : List Byte) : Event := .wr [s.params.cmdMac] a.length (.ok a)

/-- The data bytes of the answers, chunk by chunk: of answer j the chunkLength j bytes after the 3-byte prefix (R178, R179). -/
def readData (s : State) : Nat → List (List Byte) → List Byte
  | _, [] => []
  | j, a :: as => (a.drop 3).take (chunkLength s j) ++ readData s (j + 1) as

/-- The ideal gauge T0: data flash and pointer (95_test_vectors.md section 2.1). -/
structure Gauge where
  df : Half → Byte
  ptr : Half

/-- `DF[p .. p+n-1]`, offsets mod 2^16. -/
def Gauge.bytes (g : Gauge) (p : Half) : Nat → List Byte
  | 0 => []
  | n + 1 => g.df p :: g.bytes (p + 1#16) n

/-- Store data bytes at an address, offsets mod 2^16. -/
def storeDf (df : Half → Byte) (a : Half) : List Byte → Half → Byte
  | [], x => df x
  | v :: vs, x => storeDf (fun y => if y = a then v else df y) (a + 1#16) vs x

/-- T0 on a write frame: `[CMD_MAC, L, lo, hi] ++ data`, less its PEC byte, moves the pointer and stores the data. -/
def Gauge.write (g : Gauge) (payload : List Byte) : Gauge :=
  match payload with
  | _ :: _ :: lo :: hi :: data => { df := storeDf g.df (hi ++ lo) data, ptr := hi ++ lo }
  | _ => g

/-- T0 on a block read of k bytes: `[m+2, lo8(p), hi8(p)] ++ DF[p..p+m-1]`, and its checksum under pr; the pointer advances by
the m data bytes. -/
def Gauge.read (g : Gauge) (p : Params) (pr : Bool) (k : Nat) : List Byte × Gauge :=
  let m := k - 3 - pr.toNat
  let body := [BitVec.ofNat 8 (m + 2), g.ptr.extractLsb' 0 8, g.ptr.extractLsb' 8 8] ++ g.bytes g.ptr m
  (if pr then body ++ [crc8 ([addrWrite p, p.cmdMac, addrRead p] ++ body)] else body,
    { g with ptr := g.ptr + BitVec.ofNat 16 m })

/-- The write payload in the frame the block hands over: less its PEC byte when pw = 1. -/
def framePayload (s : State) : List Byte := if s.cfgs.pecOnWrite then s.scratch.txb.dropLast else s.scratch.txb

/-- T0's answer to the outstanding request, every attempt `ok`. -/
def Gauge.answer (g : Gauge) (s : State) : BusOutcome × Gauge :=
  match s.scratch.call.kind with
  | .w => (.ok [], g.write (framePayload s))
  | .wr =>
    let r := g.read s.params s.cfgs.pecOnRead (requestedBytes s)
    (.ok r.1, r.2)

/-- `GaugeRuns g s g' t`: starting at `s`, ENGINE takes its turns and every bus request is answered by T0 until no operation
runs, ending at `t`. -/
inductive GaugeRuns : Gauge → State → Gauge → State → Prop where
  | stop (g : Gauge) (s : State) (h : s.busy = false) : GaugeRuns g s g s
  | issue (g : Gauge) (s u : State) (g' : Gauge) (t : State) (h : engineReady s = true)
      (hs : step { s with inputs := .engine :: s.inputs } = .next u) (hr : GaugeRuns g u g' t) : GaugeRuns g s g' t
  | answer (g : Gauge) (s u : State) (g' : Gauge) (t : State) (h : s.seq.phase = .attempt)
      (hs : step { s with inputs := .busAnswer (g.answer s).1 :: s.inputs } = .next u)
      (hr : GaugeRuns (g.answer s).2 u g' t) : GaugeRuns g s g' t

end Sys2Proof.Claims
end

