-- ==== Sys2Proof/Certificates/Slice0/Obligations.lean ====
section
/-! DEFINITION. The statements for the provers. Each says in its docstring which rule of spec/ it formalises. A statement over
`exec` or `step` that gives the whole next state also gives the frame: what the record update does not name is unchanged, every
byte of both buffers included. -/

open Sys2Proof Sys2Proof.Machine Sys2Proof.Claims

/-! ### Encoding -/

/-- Words written out from R60 to R62 decode to the operations they stand for. -/
def Obligations.SpecWordsDecode : Prop :=
  decode 0x01000002#32 = .ok (.cfgRetry 2) ∧ decode 0x02000001#32 = .ok (.cfgPec true false) ∧
  decode 0x03000032#32 = .ok (.cfgTmo 50) ∧ decode 0x04004000#32 = .ok (.setBase 0x4000) ∧
  decode 0x11000044#32 = .ok (.pecUpd 0x44) ∧ decode 0x21000000#32 = .ok .xfWr ∧
  decode 0x30000000#32 = .ok .dfWr ∧ decode 0x40000000#32 = .ok .abort ∧
  decode 0x40010000#32 = .error (.reservedField 1) ∧ decode 0x01000100#32 = .error (.unusedOperandBits 0x100)

/-- Decoding an operation's command word gives the operation back, with every operand at every value (R60 to R62). -/
def Obligations.DecodeInvertsEncode : Prop := ∀ i : Instr, decode (encode i) = .ok i

/-- A word that decodes is the one command word of its operation (R60 to R62, R70). -/
def Obligations.EncodeInvertsDecode : Prop := ∀ (w : Word) (i : Instr), decode w = .ok i → encode i = w

/-- R62: the decoder gives a word an operation iff it selects one of the 16 rows by match and mask, that operation's row; the
rows are disjoint. -/
def Obligations.OpcodeMapSelectsByMatchAndMask : Prop :=
  rows.length = 16 ∧ (∀ i, rowOf i ∈ rows) ∧
  rows.Pairwise (fun a b => ∀ w, ¬(a.selects w = true ∧ b.selects w = true)) ∧
  (∀ w i, decode w = .ok i → (rowOf i).selects w = true) ∧
  (∀ w, ∀ r ∈ rows, r.selects w = true → ∃ i, decode w = .ok i ∧ rowOf i = r)

/-- A step on a presented word that decodes runs the decoded operation (R25, R31): step is exec of it at the state whose
schedule has moved past the word. The schedule in State is the model's (log entry 10). -/
def Obligations.StepRunsTheDecodedOperation : Prop :=
  ∀ (s : State) (w : Word) (rest : List Input) (i : Instr),
    s.inputs = .command w :: rest → decode w = .ok i → step s = exec i { s with inputs := rest }

/-- R69: a word no row selects reports ProtocolViolation and changes nothing else. While BUSY it is not accepted (R90), and the
refusal of that step is the model's form of the `refuse` of U7 (log entry 1). -/
def Obligations.UndefinedWordReportsProtocolViolation : Prop :=
  ∀ (s : State) (w : Word) (rest : List Input), s.inputs = .command w :: rest → UndefinedWord w →
    (s.busy = false →
      step s = .next { s with inputs := rest, status := { state := .err, err := .protocolViolation } }) ∧
    (s.busy = true → step s = .refused .wordNotAccepted)

/-! ### Acceptance, configuration, operands, control -/

/-- R90, D22, U7: while BUSY the host has no step that presents a word other than CFG.* and ABORT, defined or not; every word the
port accepts executes, a defined one to a next state. That the absent step is a refusal is the model's form of the spec's
`refuse` (log entry 1). -/
def Obligations.UnacceptedWordIsRefused : Prop :=
  ∀ (s : State) (w : Word) (rest : List Input), s.inputs = .command w :: rest →
    (s.busy = true → (∀ i, decode w = .ok i → Instr.acceptedWhileBusy i = false) →
      step s = .refused .wordNotAccepted) ∧
    (∀ i, decode w = .ok i → (s.busy = true → Instr.acceptedWhileBusy i = true) →
      ∃ t, exec i { s with inputs := rest } = .next t ∧ step s = .next t)

/-- R194, U5, U7: a word that a correct host presents (defined, accepted, a raw transfer that fits, a chunked one in the window)
steps, and its step reports no ProtocolViolation. -/
def Obligations.CarefulHostCausesNoProtocolViolation : Prop :=
  ∀ (s : State) (w : Word) (rest : List Input), CarefulWord s w → s.inputs = .command w :: rest →
    ∃ t, step s = .next t ∧ (t.status.err = .protocolViolation → t.status = s.status)

/-- R91, R92, R93: in every state CFG.RETRY, CFG.PEC and CFG.TMO write their field of CFG and nothing else, CFGS least of all;
their command words have OP 0x01, 0x02, 0x03 and formats I8, I2, I16. -/
def Obligations.ConfigOperationsWriteCfg : Prop :=
  ∀ s : State,
    (∀ imm8 : Byte, decode (0x01#8 ++ 0#8 ++ (0#8 ++ imm8)) = .ok (.cfgRetry imm8) ∧
      exec (.cfgRetry imm8) s = .next { s with cfg := { s.cfg with maxRetries := imm8 } }) ∧
    (∀ r w, decode (0x02#8 ++ 0#8 ++ (0#14 ++ BitVec.ofBool w ++ BitVec.ofBool r)) = .ok (.cfgPec r w) ∧
      exec (.cfgPec r w) s = .next { s with cfg := { s.cfg with pecOnRead := r, pecOnWrite := w } }) ∧
    (∀ imm16 : Half, decode (0x03#8 ++ 0#8 ++ imm16) = .ok (.cfgTmo imm16) ∧
      exec (.cfgTmo imm16) s = .next { s with cfg := { s.cfg with timeoutMs := imm16 } })

/-- R14 (and R98, R227): a transaction operation executes CFGS <- CFG when it is accepted, and no other operation writes CFGS;
every later step of the operation, ENGINE's and the completion of an attempt or of a backoff, keeps CFG and CFGS and gives the
same state but for CFG under any other CFG; at reset CFGS is CFG. -/
def Obligations.SnapshotGovernsTheOperation : Prop :=
  (∀ i s t, exec i s = .next t → classOf i = .raw ∨ classOf i = .chunked → t.cfgs = s.cfg) ∧
  (∀ i s t, exec i s = .next t → classOf i ≠ .raw → classOf i ≠ .chunked → t.cfgs = s.cfgs) ∧
  (∀ (s : State) (c : CfgRecord) (rest : List Input) (i : Input) (t : State),
    (i = .engine ∨ (∃ o, i = .busAnswer o) ∨ i = .delayDone) → s.inputs = i :: rest → step s = .next t →
      t.cfgs = s.cfgs ∧ t.cfg = s.cfg ∧ step { s with cfg := c } = .next { t with cfg := c }) ∧
  State.reset.cfgs = State.reset.cfg ∧ (∀ s, (resetBlock s).cfgs = (resetBlock s).cfg)

/-- R94, R95, R96: SET.BASE, SET.LEN and SET.ILEN write their register and nothing else, whatever the value, when not BUSY. Their
command words have OP 0x04, 0x05, 0x06 and format I16. While BUSY none is accepted (R90), which the model refuses (log entry
1). -/
def Obligations.OperandOperationsWriteTheirRegister : Prop :=
  ∀ (s : State) (imm16 : Half),
    (decode (0x04#8 ++ 0#8 ++ imm16) = .ok (.setBase imm16) ∧ decode (0x05#8 ++ 0#8 ++ imm16) = .ok (.setLen imm16) ∧
      decode (0x06#8 ++ 0#8 ++ imm16) = .ok (.setIlen imm16)) ∧
    (s.busy = false →
      exec (.setBase imm16) s = .next { s with base := imm16 } ∧
      exec (.setLen imm16) s = .next { s with len := imm16 } ∧
      exec (.setIlen imm16) s = .next { s with ilen := imm16 }) ∧
    (s.busy = true →
      exec (.setBase imm16) s = .refused .wordNotAccepted ∧ exec (.setLen imm16) s = .refused .wordNotAccepted ∧
      exec (.setIlen imm16) s = .refused .wordNotAccepted)

/-- R97, D23, R118: ABORT. In ATTEMPT the outstanding bus request's event gets outcome Cancelled, in BACKOFF the outstanding delay
is dropped, and the operation ends IDLE; when not BUSY the report is cleared. Between two attempts it takes effect at the next
suspension point: ENGINE's turn comes first with the word still on the port, then the attempt is cancelled. Its command word is
0x40000000. Otherwise no register changes but STATUS and SEQ. That the word waits on the port is the model's (log entry 20), the
emptied transaction buffers too (log entry 13). -/
def Obligations.AbortEndsTheOperation : Prop :=
  ∀ (s : State) (rest : List Input), decode 0x40000000#32 = .ok .abort ∧
    (s.busy = false → exec .abort s = .next { s with status := { state := .idle, err := .none } }) ∧
    (s.busy = true → s.seq.phase = .attempt →
      exec .abort s = .next
        { s with
          status := { state := .idle, err := .none }
          seq := Seq.idle
          scratch := Scratch.empty
          trace := settleNewest .cancelled s.trace }) ∧
    (s.busy = true → s.seq.phase = .backoff →
      exec .abort s = .next
        { s with status := { state := .idle, err := .none }, seq := Seq.idle, scratch := Scratch.empty }) ∧
    (s.busy = true → s.seq.phase = .idle →
      ∃ t u, step { s with inputs := .engine :: rest } = .next t ∧ t.seq.phase = .attempt ∧
        exec .abort { s with inputs := rest } = .next { t with inputs := .command 0x40000000#32 :: rest } ∧
        step { t with inputs := .command 0x40000000#32 :: rest } = .next u ∧
        u = { t with
          status := { state := .idle, err := .none }
          seq := Seq.idle
          scratch := Scratch.empty
          trace := settleNewest .cancelled t.trace } ∧
        u.trace.length = s.trace.length + 1 ∧ u.off = s.off ∧ u.rem = s.rem ∧ u.ibuf = s.ibuf ∧ u.inputs = rest)

/-! ### The accumulator -/

/-- R135, R136, R137, R138: PEC.CLR clears CRC; PEC.UPD, PEC.ADW and PEC.ADR feed it imm8, AW and AR; nothing else changes, Z
included. Their command words have OP 0x10 to 0x13 and formats N, I8, N, N. While BUSY none is accepted (R90), which the model
refuses (log entry 1). -/
def Obligations.AccumulatorOperations : Prop :=
  ∀ s : State,
    (decode 0x10000000#32 = .ok .pecClr ∧
      (∀ imm8 : Byte, decode (0x11#8 ++ 0#8 ++ (0#8 ++ imm8)) = .ok (.pecUpd imm8)) ∧
      decode 0x12000000#32 = .ok .pecAdw ∧ decode 0x13000000#32 = .ok .pecAdr) ∧
    (s.busy = false →
      exec .pecClr s = .next { s with crc := 0x00#8 } ∧
      (∀ imm8, exec (.pecUpd imm8) s = .next { s with crc := crc8Update s.crc imm8 }) ∧
      exec .pecAdw s = .next { s with crc := crc8Update s.crc (addrWrite s.params) } ∧
      exec .pecAdr s = .next { s with crc := crc8Update s.crc (addrRead s.params) }) ∧
    (s.busy = true →
      exec .pecClr s = .refused .wordNotAccepted ∧ (∀ imm8, exec (.pecUpd imm8) s = .refused .wordNotAccepted) ∧
      exec .pecAdw s = .refused .wordNotAccepted ∧ exec .pecAdr s = .refused .wordNotAccepted)

/-- R139: PEC.CHK sets Z iff CRC equals imm8 and changes nothing else. Its command word has OP 0x14 and format I8. While BUSY it
is not accepted (R90), which the model refuses (log entry 1). -/
def Obligations.CompareSetsMatchFlag : Prop :=
  ∀ (s : State) (imm8 : Byte), decode (0x14#8 ++ 0#8 ++ (0#8 ++ imm8)) = .ok (.pecChk imm8) ∧
    (s.busy = false → exec (.pecChk imm8) s = .next { s with z := decide (s.crc = imm8) }) ∧
    (s.busy = true → exec (.pecChk imm8) s = .refused .wordNotAccepted)

/-- R131: crc8_update is the byte form written out, agrees with the bit-serial form for all pairs, and is the table form
T[c XOR b] with T[i] = crc8_update(0, i). The spec marks the agreement as derived. -/
def Obligations.CrcUpdateIsBitSerial : Prop :=
  ∀ c b : Byte,
    crc8Update c b = (fun x : Byte => if x.getLsbD 7 then (x <<< 1) ^^^ 0x07#8 else x <<< 1)^[8] (c ^^^ b) ∧
    crc8Update c b = crcSerial c b ∧
    crc8Update c b = crc8Update 0#8 (c ^^^ b)

/-- R132: the fold, and its laws (a) to (e), which the spec derives from R131. -/
def Obligations.CrcLaws : Prop :=
  (∀ c b s, crc8From c [] = c ∧ crc8From c (b :: s) = crc8From (crc8Update c b) s ∧ crc8 s = crc8From 0x00#8 s) ∧
  crc8 [] = 0x00#8 ∧
  (∀ s b, crc8 s = b ↔ crc8 (s ++ [b]) = 0x00#8) ∧
  (∀ c s t, crc8From c (s ++ t) = crc8From (crc8From c s) t) ∧
  (∀ s, crc8 (s ++ [crc8 s]) = 0x00#8) ∧
  (∀ b, Function.Bijective (fun c => crc8Update c b)) ∧
  (∀ c, Function.Bijective (fun b => crc8Update c b)) ∧
  (∀ c b, crc8Update c b = crc8Update (c ^^^ b) 0#8)

/-- R130: crc8 of a byte string is the remainder, in GF(2)[x], of its message polynomial times x^8 divided by x^8 + x^2 + x +
1. The conventions are the spec's own, from general knowledge (G1; log entry 15). -/
def Obligations.CrcIsPolynomialRemainder : Prop :=
  let poly : Byte → Polynomial (ZMod 2) := fun b => ∑ i : Fin 8, if b.getLsbD i then Polynomial.X ^ (i : ℕ) else 0
  ∀ s : List Byte,
    poly (crc8 s) =
      ((s.foldl (fun p b => p * Polynomial.X ^ 8 + poly b) 0) * Polynomial.X ^ 8) %ₘ
        (Polynomial.X ^ 8 + Polynomial.X ^ 2 + Polynomial.X + 1)

/-- R147: a checksum verified over the identical frame passes; one flipped bit of a covered byte, or of the checksum byte,
makes the comparison fail. The spec marks R147's argument as derived. -/
def Obligations.SingleBitFlipIsDetected : Prop :=
  ∀ s : List Byte,
    matchFlag (crc8 s) (crc8 s) = true ∧
    (∀ i k, i < s.length → k < 8 → matchFlag (crc8 (flipBit s i k)) (crc8 s) = false) ∧
    (∀ k, k < 8 → matchFlag (crc8 s) (crc8 s ^^^ (1#8 <<< k)) = false)

/-- R133: the address is in bits 7:1 of AW and AR, the direction in bit 0, 0 for write and 1 for read. The bit positions are
the spec's own, from general knowledge (G2; log entry 15). -/
def Obligations.AddressDirectionBytes : Prop :=
  ∀ p : Params,
    (addrWrite p).extractLsb' 1 7 = p.devAddr ∧ (addrWrite p).getLsbD 0 = false ∧
    (addrRead p).extractLsb' 1 7 = p.devAddr ∧ (addrRead p).getLsbD 0 = true

/-! ### Transaction operations: acceptance -/

/-- R145: XF.W. A frame that fits TXB is accepted with the snapshot taken, and ENGINE's next turn issues it with its PEC byte iff
pec_on_write; one that does not fit ends in ProtocolViolation before any port call. Where the first step ends is the model's
reading of R31 and R118 (log entry 2), the empty buffers and the pending outcome are the model's (log entry 13). -/
def Obligations.RawWriteIsIssued : Prop :=
  ∀ (s u : State) (rest : List Input), s.busy = false →
    u = { s with
      cfgs := s.cfg
      status := { state := .busy, err := .none }
      seq := { opk := .xfw, stage := .none, phase := .idle } } →
    (s.len.toNat + s.cfg.pecOnWrite.toNat ≤ 37 →
      exec .xfW s = .next u ∧
      step { u with inputs := .engine :: rest } =
        .next (writeIssued { u with inputs := rest } (memRead s .obuf 0#16 s.len.toNat))) ∧
    (37 < s.len.toNat + s.cfg.pecOnWrite.toNat →
      exec .xfW s = .next
        { s with
          cfgs := s.cfg
          status := { state := .err, err := .protocolViolation }
          seq := Seq.idle
          scratch := Scratch.empty })

/-- R146: XF.WR. Frames that fit are accepted with the snapshot taken, and ENGINE's next turn requests them, with no PEC byte on
the out half and one more in-byte iff pec_on_read; a frame that does not fit ends in ProtocolViolation before any port call.
The step boundary, the empty buffers and the pending outcome are the model's (log entries 2 and 13); CRC is cleared iff
pec_on_read (R11), and that what it held is kept beside it is the model's (log entry 19). -/
def Obligations.RawReadIsIssued : Prop :=
  ∀ (s u : State) (rest : List Input), s.busy = false →
    u = { s with
      cfgs := s.cfg
      status := { state := .busy, err := .none }
      seq := { opk := .xfwr, stage := .none, phase := .idle } } →
    (s.len.toNat ≤ 37 ∧ s.ilen.toNat + s.cfg.pecOnRead.toNat ≤ 36 →
      exec .xfWr s = .next u ∧
      step { u with inputs := .engine :: rest } =
        .next (readIssued { u with inputs := rest } (memRead s .obuf 0#16 s.len.toNat) s.ilen.toNat)) ∧
    (37 < s.len.toNat ∨ 36 < s.ilen.toNat + s.cfg.pecOnRead.toNat →
      exec .xfWr s = .next
        { s with
          cfgs := s.cfg
          status := { state := .err, err := .protocolViolation }
          seq := Seq.idle
          scratch := Scratch.empty })

/-- R170: DF.WR with LEN not 0. It is accepted with OFF = 0 and REM = LEN, and ENGINE's next turn issues the first chunk's frame at
BASE. The step boundary and the pending outcome are the model's (log entries 2 and 13). -/
def Obligations.ChunkedWriteIsIssued : Prop :=
  ∀ (s u : State) (rest : List Input), s.busy = false → s.len ≠ 0#16 →
    u = { s with
      cfgs := s.cfg
      status := { state := .busy, err := .none }
      seq := { opk := .dfwr, stage := .none, phase := .idle }
      off := 0#16
      rem := s.len } →
    exec .dfWr s = .next u ∧
    step { u with inputs := .engine :: rest } = .next (writeIssued { u with inputs := rest } (chunkPayload s 0))

/-- R175 and R176: DF.RD with LEN not 0. It is accepted with OFF = 0, REM = LEN and STAGE = SEL, and ENGINE's next turn issues the
select-write, carrying BASE. The step boundary and the pending outcome are the model's (log entries 2 and 13). -/
def Obligations.ChunkedReadSelectsFirst : Prop :=
  ∀ (s u : State) (rest : List Input), s.busy = false → s.len ≠ 0#16 →
    u = { s with
      cfgs := s.cfg
      status := { state := .busy, err := .none }
      seq := { opk := .dfrd, stage := .sel, phase := .idle }
      off := 0#16
      rem := s.len } →
    exec .dfRd s = .next u ∧
    step { u with inputs := .engine :: rest } = .next (writeIssued { u with inputs := rest } (selectPayload s))

/-- R118 s1: from every state that meets the invariant with an operation running and no request outstanding, ENGINE's turn starts
the next transaction of that operation: the raw frame of OBUF, the chunk at OFF, the select-write, or a block read. The empty
buffers before it and the pending outcome are the model's (log entry 13), the turn as an input too (log entry 10), and so is that the
CRC a transaction finds is held beside it (log entry 19). -/
def Obligations.EngineIssuesTheNextAttempt : Prop :=
  ∀ (s u : State) (rest : List Input), Inv s → s.status.state = .busy → s.seq.phase = .idle →
    s.inputs = .engine :: rest → u = { s with inputs := rest } →
    (s.seq.opk = .xfw → step s = .next (writeIssued u (memRead s .obuf 0#16 s.len.toNat))) ∧
    (s.seq.opk = .xfwr → step s = .next (readIssued u (memRead s .obuf 0#16 s.len.toNat) s.ilen.toNat)) ∧
    (s.seq.opk = .dfwr → step s = .next (writeIssued u (chunkPayload s (s.off.toNat / 32)))) ∧
    (s.seq.opk = .dfrd → s.seq.stage = .sel → step s = .next (writeIssued u (selectPayload s))) ∧
    (s.seq.opk = .dfrd → s.seq.stage = .blk →
      step s = .next (readIssued u [s.params.cmdMac]
        (3 + if s.params.rdFullFrame then 32 else min 32 s.rem.toNat)))

/-- R181: DF.WR and DF.RD with LEN = 0 issue nothing, store nothing and end DONE with OFF = REM = 0. For DF.RD this is "this
spec's choice". That the transaction buffers are left empty is the model's (log entry 13). -/
def Obligations.ZeroLengthTransferEndsAtOnce : Prop :=
  ∀ (s : State) (i : Instr), s.busy = false → s.len = 0#16 → (i = .dfWr ∨ i = .dfRd) →
    exec i s = .next
      { s with
        cfgs := s.cfg
        status := { state := .done, err := .none }
        seq := Seq.idle
        scratch := Scratch.empty
        off := 0#16
        rem := 0#16 }

/-- The frame of the 16 operations: when exec gives a next state, each register, flag and piece of the trace is unchanged
except for the operations whose rules say they write it, and no byte of either buffer changes. A transaction operation's exec is
its acceptance (R31; log entry 2); what its later steps change is said of those steps. ABORT presented between two attempts lets
ENGINE take its turn first (log entry 20): that turn is what it changes there. The buffers left empty by an end at acceptance are
the model's (log entry 13). -/
def Obligations.OperationFrame : Prop :=
  ∀ (i : Instr) (s t : State), exec i s = .next t →
    t.params = s.params ∧ t.cause = s.cause ∧ t.reads = s.reads ∧ t.drawn = s.drawn ∧
    (∀ sp a, readByte t sp a = readByte s sp a) ∧ t.obuf = s.obuf ∧ t.ibuf = s.ibuf ∧
    (classOf i ≠ .config → t.cfg = s.cfg) ∧
    (classOf i ≠ .setBase → t.base = s.base) ∧
    (classOf i ≠ .setLen → t.len = s.len) ∧
    (classOf i ≠ .setIlen → t.ilen = s.ilen) ∧
    (classOf i ≠ .compare → t.z = s.z) ∧
    (classOf i ≠ .control → t.trace = s.trace) ∧
    (classOf i ≠ .chunked → t.off = s.off ∧ t.rem = s.rem) ∧
    (classOf i ≠ .raw ∧ classOf i ≠ .chunked → t.cfgs = s.cfgs) ∧
    (classOf i ≠ .raw ∧ classOf i ≠ .chunked ∧ classOf i ≠ .control →
      t.status = s.status ∧ t.seq = s.seq ∧ t.scratch = s.scratch) ∧
    (classOf i ≠ .control ∨ engineReady s = false → t.retry = s.retry ∧ t.inputs = s.inputs) ∧
    (classOf i ≠ .accumulate → classOf i ≠ .control ∨ engineReady s = false → t.crc = s.crc) ∧
    (classOf i = .control → engineReady s = true →
      step { s with inputs := [.engine] } = .next { t with inputs := [] })

/-! ### Transaction operations: attempts -/

/-- R145, the end of a successful XF.W: DONE, no data moved, CRC and Z as they stood. That the transaction buffers are left empty
is the model's (log entry 13). -/
def Obligations.RawWriteCompletes : Prop :=
  ∀ (s : State) (rest : List Input), Inv s → s.seq.opk = .xfw → s.seq.phase = .attempt →
    s.inputs = .busAnswer (.ok []) :: rest →
    step s = .next
      { s with
        inputs := rest
        status := { state := .done, err := .none }
        seq := Seq.idle
        scratch := Scratch.empty
        trace := settleNewest (.ok []) s.trace }

/-- R146 and R141, the end of a successful XF.WR: the ILEN payload bytes go to IBUF from offset 0, the PEC byte is not stored,
and under pec_on_read CRC is the recomputed checksum and Z is 1. That the transaction buffers are left empty is the model's (log
entry 13). -/
def Obligations.RawReadCompletes : Prop :=
  ∀ (s : State) (data : List Byte) (c : Byte) (rest : List Input), Inv s → s.seq.opk = .xfwr → s.seq.phase = .attempt →
    data.length = s.ilen.toNat + s.cfgs.pecOnRead.toNat →
    c = crc8 ([addrWrite s.params] ++ memRead s .obuf 0#16 s.len.toNat ++ [addrRead s.params] ++ data.take s.ilen.toNat) →
    (s.cfgs.pecOnRead = true → data.getLast? = some c) →
    s.inputs = .busAnswer (.ok data) :: rest →
    step s = .next
      { s with
        inputs := rest
        status := { state := .done, err := .none }
        seq := Seq.idle
        scratch := Scratch.empty
        crc := if s.cfgs.pecOnRead then c else s.crc
        z := if s.cfgs.pecOnRead then true else s.z
        ibuf := memWrite s.ibuf 0#16 (data.take s.ilen.toNat)
        trace := settleNewest (.ok data) s.trace }

/-- R114, R115 and R142: an attempt that fails with budget left, in any of the three ways R115 names, consumes one retry and
requests one backoff. After a bus error and a timeout CRC and Z are what the attempt found (a protected write's PEC byte apart),
after a mismatch CRC is the recomputed checksum and Z = 0 (R141). The call and the frame stay, and so does every register and buffer not named. The trace's place in State, and RXB there, are the
model's (log entry 13); what CRC holds after an unanswered attempt is its reading of R140 and R141 (log entries 18 and 19), and so
is what an earlier mismatch leaves in CRC and Z (log entry 21). -/
def Obligations.FailedAttemptConsumesOneRetry : Prop :=
  ∀ (s : State) (o : BusOutcome) (rest : List Input), FailingAnswer s o → s.retry ≠ 0#8 → s.inputs = .busAnswer o :: rest →
    ∃ crc z rxb,
      step s = .next
        { s with
          inputs := rest
          retry := s.retry - 1#8
          crc := crc
          z := z
          seq := { s.seq with phase := .backoff }
          scratch := { s.scratch with rxb := rxb }
          trace := .d s.params.backoffMs :: settleNewest o.shown s.trace } ∧
      match o with
      | .busError _ => crc = crcUnanswered s ∧ z = s.z ∧ rxb = s.scratch.rxb
      | .timeout => crc = crcUnanswered s ∧ z = s.z ∧ rxb = s.scratch.rxb
      | .ok data =>
        z = false ∧ rxb = data ∧
          crc = crc8 ([addrWrite s.params] ++ s.scratch.call.out ++ [addrRead s.params] ++ data.take s.scratch.call.nin)

/-- R116, R142 and R200: an attempt that fails, in any of the three ways R115 names, with no budget left raises the error of that
failure, with what it records; CRC and Z are as after a failed attempt with budget left, every other register, both buffers and the
progress keep their values. The spec marks R116 as
derived. That the transaction buffers are left empty is the model's (log entry 13); what CRC holds after an unanswered attempt is
its reading of R140 and R141 (log entries 18 and 19), and so is that an earlier mismatch's CRC and Z stay (log entry 21). -/
def Obligations.ExhaustedBudgetRaisesTheLastFailure : Prop :=
  ∀ (s : State) (o : BusOutcome) (rest : List Input), FailingAnswer s o → s.retry = 0#8 → s.inputs = .busAnswer o :: rest →
    ∃ k c crc z,
      step s = .next
        { s with
          inputs := rest
          status := { state := .err, err := k }
          cause := c
          crc := crc
          z := z
          seq := Seq.idle
          scratch := Scratch.empty
          trace := settleNewest o.shown s.trace } ∧
      match o with
      | .busError cause => k = .communication ∧ c = cause ∧ crc = crcUnanswered s ∧ z = s.z
      | .timeout => k = .timeout ∧ c = s.cause ∧ crc = crcUnanswered s ∧ z = s.z
      | .ok data =>
        k = .checksum ∧ c = s.cause ∧ z = false ∧
          crc = crc8 ([addrWrite s.params] ++ s.scratch.call.out ++ [addrRead s.params] ++ data.take s.scratch.call.nin)

/-- R120, R118 s4 and R11: the attempt after a backoff uses the same out, frame, requested length and snapshot: the step changes
PHASE and the trace, and clears CRC iff it is a protected read; with any other bytes in OBUF it does the same, reading nothing
again. The spec marks R120 as derived. The pending event and the emptied RXB are the model's (log entry 13), and so is that the
CRC it found is held (log entry 19). -/
def Obligations.RetryReissuesIdentically : Prop :=
  ∀ (s : State) (m : Memory) (rest : List Input), Inv s → s.seq.phase = .backoff →
    step { s with obuf := m, inputs := .delayDone :: rest } = .next
      { s with
        obuf := m
        inputs := rest
        crc := if s.scratch.call.kind = .wr ∧ s.cfgs.pecOnRead = true then 0x00#8 else s.crc
        seq := { s.seq with phase := .attempt }
        scratch := { s.scratch with rxb := [], heldCrc := s.crc }
        trace := requestEvent s :: s.trace }

/-- R121, first half: with the full budget N, j ≤ N failing attempts and then a successful one end the transaction in success
after exactly j + 1 attempts and j delays, RETRY at N - j. The spec marks R121 as derived from R114. The pending event and the
trace's place are the model's (log entry 13), and so is that the success's step ends there, with PHASE = IDLE (log entry 2). -/
def Obligations.RetriesSucceedWithinTheBudget : Prop :=
  ∀ (s : State) (fails : List BusOutcome) (o : BusOutcome) (rest : List Input),
    Inv s → s.seq.phase = .attempt → s.retry = s.cfgs.maxRetries → fails.length ≤ s.cfgs.maxRetries.toNat →
    (∀ f ∈ fails, FailingAnswer s f) → PassingAnswer s o →
    s.inputs = retryInputs fails ++ .busAnswer o :: rest →
    ∃ t u, Host.Core.run Sys2Proof.core (2 * fails.length) s = .next t ∧ step t = .next u ∧
      t.retry.toNat = s.cfgs.maxRetries.toNat - fails.length ∧
      t.trace.reverse = s.trace.tail.reverse ++ retryEvents (requestEvent s) s.params.backoffMs fails ++ [requestEvent s] ∧
      t.ibuf = s.ibuf ∧ t.off = s.off ∧ t.rem = s.rem ∧
      u.status.state ≠ .err ∧ u.seq.phase = .idle ∧ u.retry = t.retry ∧ u.inputs = rest ∧
      u.trace = (requestEvent s).settle o.shown :: t.trace.tail ∧
      (s.seq.opk = .xfw ∨ s.seq.opk = .xfwr → u.status = { state := .done, err := .none })

/-- R121, second half: with the full budget N, N + 1 failing attempts end the transaction in the last one's error after
exactly N + 1 attempts and N delays, none after the last, with RETRY = 0. The spec marks R121 as derived from R114. The trace's
place in State is the model's (log entry 13). -/
def Obligations.RetriesExhaustTheBudget : Prop :=
  ∀ (s : State) (fails : List BusOutcome) (o : BusOutcome) (rest : List Input),
    Inv s → s.seq.phase = .attempt → s.retry = s.cfgs.maxRetries → fails.length = s.cfgs.maxRetries.toNat →
    (∀ f ∈ fails, FailingAnswer s f) → FailingAnswer s o →
    s.inputs = retryInputs fails ++ .busAnswer o :: rest →
    ∃ u, Host.Core.run Sys2Proof.core (2 * fails.length + 1) s = .next u ∧
      u.status.state = .err ∧ u.seq = Seq.idle ∧ u.retry = 0#8 ∧ u.inputs = rest ∧
      u.trace.reverse = s.trace.tail.reverse ++ retryEvents (requestEvent s) s.params.backoffMs fails ++
        [(requestEvent s).settle o.shown] ∧
      u.ibuf = s.ibuf ∧ u.off = s.off ∧ u.rem = s.rem ∧
      (∀ c, o = .busError c → u.status.err = .communication ∧ u.cause = c) ∧
      (o = .timeout → u.status.err = .timeout) ∧
      (∀ data, o = .ok data → u.status.err = .checksum)

/-- R175, R178, R179, R141, R144: one successful block read stores its n = min(32, REM) data bytes at OFF, and only them, and counts
them; under pec_on_read CRC is the checksum over [AW, CMD_MAC, AR] and the in-payload and Z is 1, else both stay. It ends the
operation when no byte remains, and else leaves it BUSY with PHASE = IDLE for ENGINE's next turn. Nothing else changes. Where the
step ends is the model's reading of R118 (log entry 2), the emptied transaction buffers are the model's (log entry 13). -/
def Obligations.BlockReadStoresItsChunk : Prop :=
  ∀ (s t : State) (data : List Byte) (rest : List Input), Inv s → s.seq.opk = .dfrd → s.seq.stage = .blk →
    s.seq.phase = .attempt → PassingAnswer s (.ok data) → s.inputs = .busAnswer (.ok data) :: rest →
    t = { s with
      inputs := rest
      seq := { opk := .dfrd, stage := .blk, phase := .idle }
      scratch := Scratch.empty
      crc :=
        if s.cfgs.pecOnRead then crc8 ([addrWrite s.params, s.params.cmdMac, addrRead s.params] ++ data.dropLast)
        else s.crc
      z := if s.cfgs.pecOnRead then true else s.z
      ibuf := memWrite s.ibuf s.off ((data.drop 3).take (min 32 s.rem.toNat))
      trace := settleNewest (.ok data) s.trace } →
    (s.rem.toNat ≤ 32 →
      step s = .next
        { t with status := { state := .done, err := .none }, seq := Seq.idle, off := s.len, rem := 0#16 }) ∧
    (32 < s.rem.toNat → step s = .next { t with off := s.off + 32#16, rem := s.rem - 32#16 }) ∧
    (∀ j, j < min 32 s.rem.toNat → some (readByte t .ibuf (s.off + BitVec.ofNat 16 j)) = data[3 + j]?) ∧
    (∀ a : Half, (a.toNat < s.off.toNat ∨ s.off.toNat + min 32 s.rem.toNat ≤ a.toNat) →
      readByte t .ibuf a = readByte s .ibuf a) ∧
    (∀ a, readByte t .obuf a = readByte s .obuf a)

/-- R170, R20, R21: one successful chunk of DF.WR is counted and nothing is stored: the operation ends DONE with OFF = LEN when the
chunk was the last, and else stays BUSY with PHASE = IDLE, OFF 32 on and REM 32 down, for ENGINE's next turn. Where the step ends
is the model's reading of R118 (log entry 2), the emptied transaction buffers are the model's (log entry 13). -/
def Obligations.ChunkWriteCountsItsChunk : Prop :=
  ∀ (s : State) (rest : List Input), Inv s → s.seq.opk = .dfwr → s.seq.phase = .attempt →
    s.inputs = .busAnswer (.ok []) :: rest →
    (s.rem.toNat ≤ 32 →
      step s = .next
        { s with
          inputs := rest
          status := { state := .done, err := .none }
          seq := Seq.idle
          scratch := Scratch.empty
          off := s.len
          rem := 0#16
          trace := settleNewest (.ok []) s.trace }) ∧
    (32 < s.rem.toNat →
      step s = .next
        { s with
          inputs := rest
          seq := { opk := .dfwr, stage := .none, phase := .idle }
          scratch := Scratch.empty
          off := s.off + 32#16
          rem := s.rem - 32#16
          trace := settleNewest (.ok []) s.trace })

/-- R175, R176: a successful select-write turns DF.RD to its block reads and changes nothing else: STAGE = BLK, PHASE = IDLE for
ENGINE's next turn, OFF, REM and RETRY as they stood. Where the step ends is the model's reading of R118 (log entry 2), the
emptied transaction buffers are the model's (log entry 13). -/
def Obligations.SelectWriteTurnsToBlockReads : Prop :=
  ∀ (s : State) (rest : List Input), Inv s → s.seq.stage = .sel → s.seq.phase = .attempt →
    s.inputs = .busAnswer (.ok []) :: rest →
    step s = .next
      { s with
        inputs := rest
        seq := { opk := .dfrd, stage := .blk, phase := .idle }
        scratch := Scratch.empty
        trace := settleNewest (.ok []) s.trace }

/-- R178: the length byte and the echoed address are ignored. Two answers that let one block read succeed and agree on the data
give the same state but for the trace and the checksum that covered them. -/
def Obligations.EchoedPrefixIsIgnored : Prop :=
  ∀ (s a b : State) (x y : List Byte) (rest : List Input), Inv s → s.seq.opk = .dfrd → s.seq.stage = .blk →
    s.seq.phase = .attempt → PassingAnswer s (.ok x) → PassingAnswer s (.ok y) → x.drop 3 = y.drop 3 →
    step { s with inputs := .busAnswer (.ok x) :: rest } = .next a →
    step { s with inputs := .busAnswer (.ok y) :: rest } = .next b →
    { a with trace := [], crc := 0#8 } = { b with trace := [], crc := 0#8 }

/-! ### Chunked transfers, whole -/

/-- R161, R162, R170: with every attempt Ok, DF.WR makes exactly ceil(LEN / 32) write transactions, chunk j at BASE + 32 j
with min(32, LEN - 32 j) bytes of OBUF, each frame as R63 says, and ends DONE with OFF = LEN and REM = 0. The spec marks R161
as derived; the wrap of the address is its decision D12 (log entry 4). That a chunk takes two steps, ENGINE's turn and the
answer, is the model's reading of R118 (log entry 2). -/
def Obligations.ChunkedWriteSendsEveryChunk : Prop :=
  ∀ (s u : State) (rest : List Input), s.busy = false →
    s.inputs = answeredTurns (List.replicate (chunkCount s) (.ok [])) ++ rest → exec .dfWr s = .next u →
    ∃ t, Host.Core.run Sys2Proof.core (2 * chunkCount s) u = .next t ∧
      t.status = { state := .done, err := .none } ∧ t.off = s.len ∧ t.rem = 0#16 ∧ t.inputs = rest ∧
      t.trace.reverse = s.trace.reverse ++ (List.range (chunkCount s)).map (chunkWriteEvent s) ∧
      t.obuf = s.obuf ∧ t.ibuf = s.ibuf ∧ t.z = s.z

/-- R175, R176, R179: with every attempt answered well, DF.RD makes one select-write and exactly ceil(LEN / 32) block reads
and ends DONE with IBUF[0..LEN] the concatenated data parts, and nothing else of IBUF changed. The spec marks R179 as derived.
Every BASE is run, BASE + LEN past 0x10000 included (log entry 4). That a transaction takes two steps, ENGINE's turn and the
answer, is the model's reading of R118 (log entry 2). -/
def Obligations.ChunkedReadReassembles : Prop :=
  ∀ (s u : State) (answers : List (List Byte)) (rest : List Input), s.busy = false → s.len ≠ 0#16 →
    answers.length = chunkCount s → (∀ j a, answers[j]? = some a → GoodAnswer s j a) →
    s.inputs = answeredTurns (.ok [] :: answers.map .ok) ++ rest → exec .dfRd s = .next u →
    ∃ t, Host.Core.run Sys2Proof.core (2 + 2 * chunkCount s) u = .next t ∧
      t.status = { state := .done, err := .none } ∧ t.off = s.len ∧ t.rem = 0#16 ∧ t.inputs = rest ∧
      t.trace.reverse = s.trace.reverse ++ .w (wireFrame s.params s.cfg (selectPayload s)) (.ok []) ::
        answers.map (blockReadEvent s) ∧
      t.ibuf = memWrite s.ibuf 0#16 (readData s 0 answers) ∧ (readData s 0 answers).length = s.len.toNat ∧
      t.obuf = s.obuf

/-- R182: against the ideal gauge T0 with no failed attempt, DF.WR of OBUF[0..LEN] at BASE and then DF.RD of LEN at the same
BASE, under whatever configuration, give IBUF[0..LEN] = OBUF[0..LEN]. The spec marks R182 as derived. The runs alternate
ENGINE's turn and T0's answer, the model's reading of R118 (log entry 2). -/
def Obligations.WriteThenReadRoundTrip : Prop :=
  ∀ (s : State) (g : Gauge) (c : CfgRecord), s.busy = false → InWindow s →
    ∃ u g1 v u' g2 t,
      exec .dfWr s = .next u ∧ GaugeRuns g u g1 v ∧ v.status = { state := .done, err := .none } ∧
      exec .dfRd { v with cfg := c } = .next u' ∧ GaugeRuns g1 u' g2 t ∧ t.status = { state := .done, err := .none } ∧
      v.base = s.base ∧ v.len = s.len ∧
      ∀ i, i < s.len.toNat → readByte t .ibuf (BitVec.ofNat 16 i) = readByte s .obuf (BitVec.ofNat 16 i)

/-! ### Invariants and whole-machine rules -/

/-- The invariant holds right after reset. Of State.reset it fixes values that R220 leaves unspecified, and these are the model's:
CAUSE = 0 (log entry 6), the empty TXB, RXB and call (log entry 13), and buffers in which nothing is written (log entry 5). -/
def Obligations.ResetMeetsTheInvariant : Prop := Inv State.reset

/-- Every step keeps the invariant: STATUS, SEQ and the trace agree (R15, R26, R27, R54), CAUSE is a value of the type Cause
(P13), the frame buffers keep their sizes and hold the running call's frame (R24, R120), CRC is the PEC byte of a protected write
in progress and 0x00 while a protected read is outstanding (R11, R140; log entries 18 and 19), OFF + REM = LEN at multiples of 32
(R21, R161), RETRY is within the snapshot's budget, and both buffers keep their canonical form. Empty transaction buffers while
no request is outstanding are the model's (log entry 13), as is CAUSE after an applied reset, a free value of its type (log entry
6). -/
def Obligations.StepKeepsTheInvariant : Prop :=
  ∀ s t : State, Inv s → step s = .next t → Inv t

/-- R220 and R221: reset puts every register at its reset value in one step, abandons an outstanding bus request, and leaves the
host's buffers alone. CAUSE is unspecified: the statement is silent on it. Reset as an input that can come at any time is the
model's (log entry 16), and so is that it leaves the trace and the schedule (log entry 13). -/
def Obligations.ResetSetsEveryRegister : Prop :=
  ∀ (s : State) (rest : List Input), s.inputs = .reset :: rest →
    ∃ t, step s = .next t ∧ t.crc = 0x00#8 ∧ t.z = false ∧ t.status = { state := .idle, err := .none } ∧
      t.cfg = s.params.cfgReset ∧ t.cfgs = s.params.cfgReset ∧ t.base = 0#16 ∧ t.len = 0#16 ∧ t.ilen = 0#16 ∧
      t.off = 0#16 ∧ t.rem = 0#16 ∧ t.retry = 0#8 ∧ t.seq = Seq.idle ∧ t.obuf = s.obuf ∧ t.ibuf = s.ibuf ∧
      t.params = s.params ∧ t.inputs = rest ∧
      t.trace = (if s.seq.phase = .attempt then settleNewest .cancelled s.trace else s.trace)

/-- R4: no step changes DEV_ADDR, nor any other parameter. -/
def Obligations.ParametersNeverChange : Prop :=
  ∀ s t : State, step s = .next t → t.params = s.params

/-- R191 to R194 and R205: a step that reports an error does so for that error's cause, on a last allowed attempt or, for
ProtocolViolation, at acceptance with no port call and no retry consumed. -/
def Obligations.EveryErrorHasItsCause : Prop :=
  ∀ s t : State, step s = .next t → t.status.err ≠ .none → t.status ≠ s.status →
    (∃ c rest, s.inputs = .busAnswer (.busError c) :: rest ∧ s.retry = 0#8 ∧ t.status.err = .communication ∧ t.cause = c) ∨
    (∃ data rest, s.inputs = .busAnswer (.ok data) :: rest ∧ s.retry = 0#8 ∧ t.status.err = .checksum ∧
      s.cfgs.pecOnRead = true ∧ s.scratch.call.kind = .wr ∧ ¬Verifies s data ∧ t.z = false) ∨
    (∃ rest, s.inputs = .busAnswer .timeout :: rest ∧ s.retry = 0#8 ∧ t.status.err = .timeout ∧
      s.cfgs.timeoutMs ≠ 0#16) ∨
    (∃ w rest, s.inputs = .command w :: rest ∧ t.status.err = .protocolViolation ∧ t.trace = s.trace ∧ t.retry = s.retry ∧
      (UndefinedWord w ∨
        (decode w = .ok .xfW ∧ 37 < s.len.toNat + s.cfg.pecOnWrite.toNat) ∨
        (decode w = .ok .xfWr ∧ (37 < s.len.toNat ∨ 36 < s.ilen.toNat + s.cfg.pecOnRead.toNat))))

/-- R12: Z is written by PEC.CHK, by an answered PEC-protected write-then-read, by reset, and by nothing else. -/
def Obligations.MatchFlagWriters : Prop :=
  ∀ s t : State, step s = .next t → t.z ≠ s.z →
    (∃ w rest imm8, s.inputs = .command w :: rest ∧ decode w = .ok (.pecChk imm8)) ∨
    (∃ data rest, s.inputs = .busAnswer (.ok data) :: rest ∧ s.cfgs.pecOnRead = true ∧ s.scratch.call.kind = .wr) ∨
    (∃ rest, s.inputs = .reset :: rest)

/-- R16: CAUSE is written with STATUS.ERR <- 1 and by nothing else, reset leaving it unspecified. -/
def Obligations.CauseWriters : Prop :=
  ∀ s t : State, step s = .next t → t.cause ≠ s.cause →
    (∃ c rest, s.inputs = .busAnswer (.busError c) :: rest ∧ t.cause = c ∧
      t.status = { state := .err, err := .communication }) ∨
    (∃ rest, s.inputs = .reset :: rest)

/-- R40, R41, R50, R142: no step of the block writes OBUF; IBUF changes only by the host's store or by a successful attempt of
XF.WR or of a DF.RD block read. -/
def Obligations.BufferWriters : Prop :=
  ∀ s t : State, step s = .next t →
    (t.obuf ≠ s.obuf → ∃ a v rest, s.inputs = .storeBuf .obuf a v :: rest ∧ s.busy = false) ∧
    (t.ibuf ≠ s.ibuf →
      (∃ a v rest, s.inputs = .storeBuf .ibuf a v :: rest ∧ s.busy = false) ∨
      (∃ data rest, s.inputs = .busAnswer (.ok data) :: rest ∧ PassingAnswer s (.ok data) ∧
        (s.seq.opk = .xfwr ∨ (s.seq.opk = .dfrd ∧ s.seq.stage = .blk))))

/-- R53, R54: the trace only grows, by at most one event a step: settled events stay in their places, and the outstanding request's
event stays too, as it is or with its outcome filled in. The trace's place in State is the model's (log entry 13). -/
def Obligations.TraceOnlyGrows : Prop :=
  ∀ s t : State, Inv s → step s = .next t →
    (s.seq.phase ≠ .attempt → s.trace <:+ t.trace) ∧
    (s.seq.phase = .attempt → ∃ o, ((requestEvent s).settle o :: s.trace.tail) <:+ t.trace) ∧
    s.trace.length ≤ t.trace.length ∧ t.trace.length ≤ s.trace.length + 1

/-- R21: OFF + REM is LEN after every step of a running chunked operation, the step that ends it included (reset apart, which
clears both). -/
def Obligations.ProgressSumsToLength : Prop :=
  ∀ s t : State, Inv s → (s.seq.opk = .dfwr ∨ s.seq.opk = .dfrd) → (∀ rest, s.inputs ≠ .reset :: rest) →
    step s = .next t → t.off.toNat + t.rem.toNat = s.len.toNat

/-! ### Ports -/

/-- A turn steps exactly when the spec gives its agent that step (R30, R32, R56, R90, R110, R111, R112, R118, U7, U9, U11): ENGINE's
with an attempt to issue, a command word the port accepts, an answer when its port owes one of that shape, register reads below
index 12, buffer accesses by ownership. That a transfer wrapping the window steps is the model's choice (log entry 4), and so is
reset at any time (log entry 16); that the other turns stop by name is its form of the spec's refuse (log entries 1, 11, 12). -/
def Obligations.InputStepsIffItsAgentHasTheStep : Prop :=
  ∀ (s : State) (i : Input) (rest : List Input), s.inputs = i :: rest →
    ((∃ t, step s = .next t) ↔ InputOk s i)

/-- R32: a register read is possible in every state, BUSY included, delivers the word that ReadPortShowsEveryRegister gives for it,
and changes nothing of the block; x[3] delivers CAUSE while STATUS.ERR = 1 (R16). The record of reads and the count of free values
drawn are the model's (log entries 6 and 13). -/
def Obligations.RegisterReadHasNoSideEffect : Prop :=
  ∀ (s : State) (i : Nat) (rest : List Input), i < 12 → s.inputs = .readReg i :: rest →
    ∃ v d, readPort s i = some v ∧ step s = .next { s with inputs := rest, reads := .reg i v :: s.reads, drawn := d } ∧
      (i = 3 → s.status.err = .communication → v = s.cause)

/-- R56, R228: while BUSY the host's stores to either buffer and loads of IBUF are refused. The refusal is the model's, as the
spec tells a model to do (log entry 11). -/
def Obligations.BuffersAreOwnedWhileBusy : Prop :=
  ∀ (s : State) (a : Half) (v : Byte) (sp : Space) (rest : List Input), s.busy = true →
    (s.inputs = .storeBuf sp a v :: rest → step s = .refused .bufferOwnedByOperation) ∧
    (s.inputs = .loadBuf .ibuf a :: rest → step s = .refused .bufferOwnedByOperation)

/-- R10, R13, R15, R32: the word each read index shows: the register zero-extended, CFG and CFGS packed with reserved bits zero,
STATUS with STATE in 1:0 and ERR in 4:2 by R15's numbers and zero above; no index from 12 on. x[3] is said only for
STATUS.ERR = 1 (R16). -/
def Obligations.ReadPortShowsEveryRegister : Prop :=
  ∀ s : State,
    (∀ i n, ((i = 0 ∧ n = s.crc.toNat) ∨ (i = 1 ∧ n = s.z.toNat) ∨
        (i = 2 ∧ n = stateNumber s.status.state + 4 * errNumber s.status.err) ∨
        (i = 3 ∧ s.status.err = .communication ∧ n = s.cause.toNat) ∨
        (i = 6 ∧ n = s.base.toNat) ∨ (i = 7 ∧ n = s.len.toNat) ∨ (i = 8 ∧ n = s.ilen.toNat) ∨
        (i = 9 ∧ n = s.off.toNat) ∨ (i = 10 ∧ n = s.rem.toNat) ∨ (i = 11 ∧ n = s.retry.toNat)) →
      ∃ w, readPort s i = some w ∧ w.toNat = n) ∧
    (∀ i r, (i = 4 ∧ r = s.cfg ∨ i = 5 ∧ r = s.cfgs) →
      ∃ w, readPort s i = some w ∧ w.extractLsb' 0 8 = r.maxRetries ∧ w.getLsbD 8 = r.pecOnRead ∧
        w.getLsbD 9 = r.pecOnWrite ∧ w.extractLsb' 10 6 = 0#6 ∧ w.extractLsb' 16 16 = r.timeoutMs) ∧
    (∀ i, 12 ≤ i → readPort s i = none)

/-- R40, R41, R44: bytes written to a buffer in ascending order read back in place, and every other offset reads as before. -/
def Obligations.BufferReadAfterWrite : Prop :=
  ∀ (s : State) (a x : Half) (vs : List Byte), a.toNat + vs.length ≤ 65536 →
    readByte { s with ibuf := memWrite s.ibuf a vs } .ibuf x =
      (if a.toNat ≤ x.toNat ∧ x.toNat < a.toNat + vs.length then vs.getD (x.toNat - a.toNat) 0#8 else readByte s .ibuf x)

/-- R30, R56: the host's store to a buffer puts the byte there and changes nothing else; its load of a byte, of OBUF at any time and
of IBUF when not BUSY, delivers the byte and changes nothing of the block or of the buffers. The record of what loads delivered
is the model's (log entry 13). -/
def Obligations.HostAccessesOneByte : Prop :=
  ∀ (s : State) (a : Half) (sp : Space) (rest : List Input),
    (∀ v, s.busy = false → s.inputs = .storeBuf sp a v :: rest →
      ∃ t, step s = .next t ∧ (∀ sq x, readByte t sq x = if sq = sp ∧ x = a then v else readByte s sq x) ∧
        { t with obuf := s.obuf, ibuf := s.ibuf } = { s with inputs := rest }) ∧
    ((sp = .obuf ∨ s.busy = false) → s.inputs = .loadBuf sp a :: rest →
      step s = .next { s with inputs := rest, reads := .buf sp a (readByte s sp a) :: s.reads })

/-- R162: the device address of the chunk at OFF is the 16-bit sum BASE + OFF, sent as a 2-byte little-endian address; of chunk j, at
OFF = 32 j, it is (BASE + 32 j) mod 2^16. -/
def Obligations.ChunkAddressIsTheSixteenBitSum : Prop :=
  ∀ (s : State) (j : Nat),
    (chunkAddress s).toNat = (s.base.toNat + s.off.toNat) % 2 ^ 16 ∧
    (s.off.toNat = 32 * j → (chunkAddress s).toNat = (s.base.toNat + 32 * j) % 2 ^ 16) ∧
    ∃ lo hi, addressBytes (chunkAddress s) = [lo, hi] ∧ lo.toNat + 256 * hi.toNat = (chunkAddress s).toNat

/-- R62 to R65, R162, R163: a chunk's out-payload is the command byte, n + 2, the 16-bit sum BASE + OFF low byte first, and n
bytes of OBUF from OFF. The value n + 2 is the spec's own, from general knowledge (G5; log entry 15). -/
def Obligations.ChunkFrameLayout : Prop :=
  ∀ s : State, ∃ lo hi : Byte,
    chunkFrame s =
      [s.params.cmdMac, BitVec.ofNat 8 (min 32 s.rem.toNat + 2), lo, hi] ++ memRead s .obuf s.off (min 32 s.rem.toNat) ∧
    lo.toNat + 256 * hi.toNat = (s.base.toNat + s.off.toNat) % 65536 ∧
    (chunkFrame s).length = 4 + min 32 s.rem.toNat

/-- R117, U13: with no turn scheduled and no attempt to issue the block waits, for ever if nothing comes, and nothing changes. With
one to issue, ENGINE takes its turn unasked (R118). That waiting is a step to the same state, and that an empty schedule leaves
the turn to ENGINE, are the model's (log entry 3). -/
def Obligations.NoInputMeansWaiting : Prop :=
  ∀ s : State, s.inputs = [] →
    (engineReady s = false → ∀ n : Nat, Host.Core.run Sys2Proof.core n s = .next s) ∧
    (engineReady s = true → step s = step { s with inputs := [.engine] })

/-- R11, D19, R141: every PEC-protected write-then-read attempt, a transaction's first and a reissued one, starts with CRC cleared
to 0x00, and if it ends in BusError or Timeout CRC and Z are as they were before it. That the two hold together, CRC reading 0x00
only while the request is outstanding, is the model's (log entry 19); the step boundaries are too (log entry 2). -/
def Obligations.ProtectedReadAttemptClearsCrc : Prop :=
  ∀ (s : State) (i : Input) (o : BusOutcome) (rest : List Input), Inv s → s.cfgs.pecOnRead = true →
    (i = .engine ∧ s.status.state = .busy ∧ s.seq.phase = .idle ∧
        (s.seq.opk = .xfwr ∨ (s.seq.opk = .dfrd ∧ s.seq.stage = .blk)) ∨
      i = .delayDone ∧ s.seq.phase = .backoff ∧ s.scratch.call.kind = .wr) →
    (o = .timeout ∧ s.cfgs.timeoutMs ≠ 0#16 ∨ ∃ c, o = .busError c ∧ s.params.isCause c = true) →
    s.inputs = i :: .busAnswer o :: rest →
    ∃ u v, step s = .next u ∧ u.seq.phase = .attempt ∧ u.crc = 0x00#8 ∧ u.z = s.z ∧
      step u = .next v ∧ v.seq.phase ≠ .attempt ∧ v.crc = s.crc ∧ v.z = s.z
end

