-- ==== Sys2Proof/Laws/Crc.lean ====
section
/-! SUPPORT. The checksum's algebra: a round is linear and loses nothing (R131, R132 d, e). -/

namespace Sys2Proof.Machine

theorem xor_left_swap (a b c : Byte) : a ^^^ (b ^^^ c) = b ^^^ (a ^^^ c) := by
  rw [← BitVec.xor_assoc, BitVec.xor_comm a b, BitVec.xor_assoc]

theorem crcShift_xor (a b : Byte) : crcShift (a ^^^ b) = crcShift a ^^^ crcShift b := by
  unfold crcShift
  rw [BitVec.getLsbD_xor, BitVec.shiftLeft_xor_distrib]
  cases a.getLsbD 7 <;> cases b.getLsbD 7 <;>
    simp [BitVec.xor_assoc, BitVec.xor_comm _ Config.pecPoly, xor_left_swap _ Config.pecPoly]

theorem crcShift_eq_zero (a : Byte) (h : crcShift a = 0#8) : a = 0#8 := by
  revert a; decide

theorem crcShift_injective : Function.Injective crcShift := by
  intro a b h
  have hz : crcShift (a ^^^ b) = 0#8 := by rw [crcShift_xor, h, BitVec.xor_self]
  exact BitVec.xor_eq_zero_iff.mp (crcShift_eq_zero _ hz)

theorem crcShifts_injective (n : Nat) : Function.Injective (crcShifts n) := by
  induction n with
  | zero => exact fun _ _ h => h
  | succ n ih => exact ih.comp crcShift_injective

theorem crcShifts_xor (n : Nat) (a b : Byte) : crcShifts n (a ^^^ b) = crcShifts n a ^^^ crcShifts n b := by
  induction n generalizing a b with
  | zero => rfl
  | succ n ih => simp [crcShifts, crcShift_xor, ih]

/-- Distinct bytes fed to one accumulator give distinct values. -/
theorem crc8Update_byte_injective (c : Byte) : Function.Injective (crc8Update c) := by
  intro a b h
  exact (BitVec.xor_right_inj _).mp (crcShifts_injective 8 h)

/-- Distinct accumulators fed one byte stay distinct. -/
theorem crc8Update_acc_injective (b : Byte) : Function.Injective (fun c => crc8Update c b) := by
  intro x y h
  exact (BitVec.xor_left_inj _).mp (crcShifts_injective 8 h)

/-- Distinct accumulators fed one byte string stay distinct. -/
theorem crc8From_injective (s : List Byte) : Function.Injective (fun c => crc8From c s) := by
  induction s with
  | nil => exact fun _ _ h => h
  | cons b s ih => exact fun x y h => crc8Update_acc_injective b (ih h)

/-- Feeding the accumulator its own value clears it. -/
theorem crc8Update_self (c : Byte) : crc8Update c c = 0#8 := by
  simp [crc8Update, crcShifts, crcShift]

@[simp] theorem matchFlag_iff (c b : Byte) : matchFlag c b = true ↔ c = b := by simp [matchFlag]

end Sys2Proof.Machine
end

