-- ==== Sys2Proof/Laws/Memory.lean ====
section
/-! SUPPORT. The laws of the host's buffers: what a byte reads as after a store, and that every store keeps the canonical
form (R40, R41). -/

namespace Sys2Proof.Machine

/-- A store is read back, and every other offset reads as before; in any list, canonical or not. -/
theorem Memory.find_put (m : Memory) (a b : Nat) (v : Byte) :
    Memory.find? (Memory.put m a v) b = if b = a then some v else Memory.find? m b := by
  induction m with
  | nil => simp [Memory.put, Memory.find?]
  | cons c m ih =>
    obtain ⟨c, w⟩ := c
    simp only [Memory.put]
    split
    · simp [Memory.find?]
    · split
      · simp only [Memory.find?]; split <;> simp_all
      · simp only [Memory.find?, ih]
        split <;> split <;> simp_all

theorem Memory.wfFrom_mono (m : Memory) (lo lo' : Nat) (h : lo' ≤ lo) (hm : Memory.wfFrom lo m = true) :
    Memory.wfFrom lo' m = true := by
  cases m with
  | nil => rfl
  | cons c m =>
    simp only [Memory.wfFrom, Bool.and_eq_true, decide_eq_true_eq] at hm ⊢
    exact ⟨⟨by omega, hm.1.2⟩, hm.2⟩

theorem Memory.wfFrom_put (m : Memory) (lo a : Nat) (v : Byte) (hlo : lo ≤ a) (ha : a < 65536)
    (h : Memory.wfFrom lo m = true) : Memory.wfFrom lo (Memory.put m a v) = true := by
  induction m generalizing lo with
  | nil => simp [Memory.put, Memory.wfFrom, hlo, ha]
  | cons c m ih =>
    obtain ⟨c, w⟩ := c
    simp only [Memory.wfFrom, Bool.and_eq_true, decide_eq_true_eq] at h
    simp only [Memory.put]
    split
    · simp only [Memory.wfFrom, Bool.and_eq_true, decide_eq_true_eq]
      exact ⟨⟨hlo, ha⟩, ⟨by omega, h.1.2⟩, h.2⟩
    · split
      · subst_vars
        simp only [Memory.wfFrom, Bool.and_eq_true, decide_eq_true_eq]
        exact ⟨⟨hlo, ha⟩, h.2⟩
      · simp only [Memory.wfFrom, Bool.and_eq_true, decide_eq_true_eq]
        exact ⟨h.1, ih _ (by omega) h.2⟩

/-- A single-byte store at an offset of the buffer keeps the canonical form. -/
theorem Memory.wf_put (m : Memory) (a : Half) (v : Byte) (h : m.wf = true) : (m.put a.toNat v).wf = true :=
  Memory.wfFrom_put m 0 a.toNat v (Nat.zero_le _) a.isLt h

/-- So does MemWrite. -/
theorem memWrite_wf (m : Memory) (a : Half) (vs : List Byte) (h : m.wf = true) : (memWrite m a vs).wf = true := by
  induction vs generalizing m a with
  | nil => exact h
  | cons v vs ih => exact ih _ _ (Memory.wf_put m a v h)

/-- A byte after MemWrite: the value written there, or what was listed before. -/
theorem memWrite_find (m : Memory) (a x : Half) (vs : List Byte) (h : a.toNat + vs.length ≤ 65536) :
    (memWrite m a vs).find? x.toNat =
      if a.toNat ≤ x.toNat ∧ x.toNat < a.toNat + vs.length then some (vs.getD (x.toNat - a.toNat) 0#8)
      else m.find? x.toNat := by
  induction vs generalizing m a with
  | nil => rw [if_neg (by simp)]; rfl
  | cons v vs ih =>
    simp only [List.length_cons] at h
    rw [memWrite]
    by_cases hv : vs = []
    · subst hv
      simp only [memWrite, Memory.find_put, List.length_cons, List.length_nil]
      by_cases hx : x.toNat = a.toNat
      · rw [if_pos hx, if_pos (by omega), hx]; simp
      · rw [if_neg hx, if_neg (by omega)]
    · have hl : 0 < vs.length := List.length_pos_of_ne_nil hv
      have ha : (a + 1#16).toNat = a.toNat + 1 := by
        rw [BitVec.toNat_add]; exact Nat.mod_eq_of_lt (show a.toNat + 1 < 65536 by omega)
      rw [ih _ _ (by omega), ha, Memory.find_put]
      simp only [List.length_cons]
      by_cases hx : x.toNat = a.toNat
      · simp [hx]
      · rw [if_neg hx]
        by_cases hc : a.toNat + 1 ≤ x.toNat ∧ x.toNat < a.toNat + 1 + vs.length
        · rw [if_pos hc, if_pos (by omega)]
          have : x.toNat - a.toNat = (x.toNat - (a.toNat + 1)) + 1 := by omega
          rw [this, List.getD_cons_succ]
        · rw [if_neg hc, if_neg (by omega)]

/-- MemWrite of one string after another is MemWrite of both. -/
theorem memWrite_append (m : Memory) (a : Half) (xs ys : List Byte) :
    memWrite m a (xs ++ ys) = memWrite (memWrite m a xs) (a + BitVec.ofNat 16 xs.length) ys := by
  induction xs generalizing m a with
  | nil => simp [memWrite]
  | cons x xs ih =>
    simp only [List.cons_append, memWrite, ih, List.length_cons, BitVec.add_assoc]
    congr 2
    apply BitVec.eq_of_toNat_eq
    simp [Nat.add_comm]

@[simp] theorem memRead_length (s : State) (sp : Space) (a : Half) (n : Nat) : (memRead s sp a n).length = n := by
  induction n generalizing a with
  | zero => rfl
  | succ n ih => simp [memRead, ih]

/-- A byte of a MemRead. -/
theorem memRead_get (s : State) (sp : Space) (a : Half) (n i : Nat) (h : i < n) :
    (memRead s sp a n)[i]? = some (readByte s sp (a + BitVec.ofNat 16 i)) := by
  induction n generalizing a i with
  | zero => omega
  | succ n ih =>
    cases i with
    | zero => simp [memRead]
    | succ i =>
      simp only [memRead, List.getElem?_cons_succ]
      rw [ih _ _ (by omega), BitVec.add_assoc]
      congr 3
      apply BitVec.eq_of_toNat_eq
      simp [Nat.add_comm]

/-- A MemRead sees a state only through the buffer it reads. -/
theorem memRead_congr (s t : State) (sp : Space) (a : Half) (n : Nat) (h : t.buf sp = s.buf sp) :
    memRead t sp a n = memRead s sp a n := by
  induction n generalizing a with
  | zero => rfl
  | succ n ih => simp [memRead, ih, readByte, h]

end Sys2Proof.Machine
end

