-- ==== Sys2Proof/Laws/State.lean ====
section
/-! SUPPORT. One lemma per field per named update of State, each true by rfl and a simp lemma, so that no proof unfolds a record
update; then the same for the updates that a case decides. -/

namespace Sys2Proof.Machine

section
variable (w : Word) (s : State)
@[simp] theorem presentNext_params : (presentNext w s).params = s.params := rfl
@[simp] theorem presentNext_crc : (presentNext w s).crc = s.crc := rfl
@[simp] theorem presentNext_z : (presentNext w s).z = s.z := rfl
@[simp] theorem presentNext_status : (presentNext w s).status = s.status := rfl
@[simp] theorem presentNext_cause : (presentNext w s).cause = s.cause := rfl
@[simp] theorem presentNext_cfg : (presentNext w s).cfg = s.cfg := rfl
@[simp] theorem presentNext_cfgs : (presentNext w s).cfgs = s.cfgs := rfl
@[simp] theorem presentNext_base : (presentNext w s).base = s.base := rfl
@[simp] theorem presentNext_len : (presentNext w s).len = s.len := rfl
@[simp] theorem presentNext_ilen : (presentNext w s).ilen = s.ilen := rfl
@[simp] theorem presentNext_off : (presentNext w s).off = s.off := rfl
@[simp] theorem presentNext_rem : (presentNext w s).rem = s.rem := rfl
@[simp] theorem presentNext_retry : (presentNext w s).retry = s.retry := rfl
@[simp] theorem presentNext_seq : (presentNext w s).seq = s.seq := rfl
@[simp] theorem presentNext_scratch : (presentNext w s).scratch = s.scratch := rfl
@[simp] theorem presentNext_obuf : (presentNext w s).obuf = s.obuf := rfl
@[simp] theorem presentNext_ibuf : (presentNext w s).ibuf = s.ibuf := rfl
@[simp] theorem presentNext_trace : (presentNext w s).trace = s.trace := rfl
@[simp] theorem presentNext_reads : (presentNext w s).reads = s.reads := rfl
@[simp] theorem presentNext_inputs : (presentNext w s).inputs = .command w :: s.inputs := rfl
@[simp] theorem presentNext_drawn : (presentNext w s).drawn = s.drawn := rfl
end

section
variable (k : OpKind) (s : State)
@[simp] theorem startOperation_params : (startOperation k s).params = s.params := rfl
@[simp] theorem startOperation_crc : (startOperation k s).crc = s.crc := rfl
@[simp] theorem startOperation_z : (startOperation k s).z = s.z := rfl
@[simp] theorem startOperation_status : (startOperation k s).status = { state := .busy, err := .none } := rfl
@[simp] theorem startOperation_cause : (startOperation k s).cause = s.cause := rfl
@[simp] theorem startOperation_cfg : (startOperation k s).cfg = s.cfg := rfl
@[simp] theorem startOperation_cfgs : (startOperation k s).cfgs = s.cfg := rfl
@[simp] theorem startOperation_base : (startOperation k s).base = s.base := rfl
@[simp] theorem startOperation_len : (startOperation k s).len = s.len := rfl
@[simp] theorem startOperation_ilen : (startOperation k s).ilen = s.ilen := rfl
@[simp] theorem startOperation_off : (startOperation k s).off = s.off := rfl
@[simp] theorem startOperation_rem : (startOperation k s).rem = s.rem := rfl
@[simp] theorem startOperation_retry : (startOperation k s).retry = s.retry := rfl
@[simp] theorem startOperation_seq : (startOperation k s).seq = { opk := k, stage := .none, phase := .idle } := rfl
@[simp] theorem startOperation_scratch : (startOperation k s).scratch = s.scratch := rfl
@[simp] theorem startOperation_obuf : (startOperation k s).obuf = s.obuf := rfl
@[simp] theorem startOperation_ibuf : (startOperation k s).ibuf = s.ibuf := rfl
@[simp] theorem startOperation_trace : (startOperation k s).trace = s.trace := rfl
@[simp] theorem startOperation_reads : (startOperation k s).reads = s.reads := rfl
@[simp] theorem startOperation_inputs : (startOperation k s).inputs = s.inputs := rfl
@[simp] theorem startOperation_drawn : (startOperation k s).drawn = s.drawn := rfl
end

section
variable (s : State)
@[simp] theorem startProgress_params : (startProgress s).params = s.params := rfl
@[simp] theorem startProgress_crc : (startProgress s).crc = s.crc := rfl
@[simp] theorem startProgress_z : (startProgress s).z = s.z := rfl
@[simp] theorem startProgress_status : (startProgress s).status = s.status := rfl
@[simp] theorem startProgress_cause : (startProgress s).cause = s.cause := rfl
@[simp] theorem startProgress_cfg : (startProgress s).cfg = s.cfg := rfl
@[simp] theorem startProgress_cfgs : (startProgress s).cfgs = s.cfgs := rfl
@[simp] theorem startProgress_base : (startProgress s).base = s.base := rfl
@[simp] theorem startProgress_len : (startProgress s).len = s.len := rfl
@[simp] theorem startProgress_ilen : (startProgress s).ilen = s.ilen := rfl
@[simp] theorem startProgress_off : (startProgress s).off = 0#16 := rfl
@[simp] theorem startProgress_rem : (startProgress s).rem = s.len := rfl
@[simp] theorem startProgress_retry : (startProgress s).retry = s.retry := rfl
@[simp] theorem startProgress_seq : (startProgress s).seq = s.seq := rfl
@[simp] theorem startProgress_scratch : (startProgress s).scratch = s.scratch := rfl
@[simp] theorem startProgress_obuf : (startProgress s).obuf = s.obuf := rfl
@[simp] theorem startProgress_ibuf : (startProgress s).ibuf = s.ibuf := rfl
@[simp] theorem startProgress_trace : (startProgress s).trace = s.trace := rfl
@[simp] theorem startProgress_reads : (startProgress s).reads = s.reads := rfl
@[simp] theorem startProgress_inputs : (startProgress s).inputs = s.inputs := rfl
@[simp] theorem startProgress_drawn : (startProgress s).drawn = s.drawn := rfl
end

section
variable (n : Nat) (s : State)
@[simp] theorem advanceProgress_params : (advanceProgress n s).params = s.params := rfl
@[simp] theorem advanceProgress_crc : (advanceProgress n s).crc = s.crc := rfl
@[simp] theorem advanceProgress_z : (advanceProgress n s).z = s.z := rfl
@[simp] theorem advanceProgress_status : (advanceProgress n s).status = s.status := rfl
@[simp] theorem advanceProgress_cause : (advanceProgress n s).cause = s.cause := rfl
@[simp] theorem advanceProgress_cfg : (advanceProgress n s).cfg = s.cfg := rfl
@[simp] theorem advanceProgress_cfgs : (advanceProgress n s).cfgs = s.cfgs := rfl
@[simp] theorem advanceProgress_base : (advanceProgress n s).base = s.base := rfl
@[simp] theorem advanceProgress_len : (advanceProgress n s).len = s.len := rfl
@[simp] theorem advanceProgress_ilen : (advanceProgress n s).ilen = s.ilen := rfl
@[simp] theorem advanceProgress_off : (advanceProgress n s).off = s.off + BitVec.ofNat 16 n := rfl
@[simp] theorem advanceProgress_rem : (advanceProgress n s).rem = s.rem - BitVec.ofNat 16 n := rfl
@[simp] theorem advanceProgress_retry : (advanceProgress n s).retry = s.retry := rfl
@[simp] theorem advanceProgress_seq : (advanceProgress n s).seq = s.seq := rfl
@[simp] theorem advanceProgress_scratch : (advanceProgress n s).scratch = s.scratch := rfl
@[simp] theorem advanceProgress_obuf : (advanceProgress n s).obuf = s.obuf := rfl
@[simp] theorem advanceProgress_ibuf : (advanceProgress n s).ibuf = s.ibuf := rfl
@[simp] theorem advanceProgress_trace : (advanceProgress n s).trace = s.trace := rfl
@[simp] theorem advanceProgress_reads : (advanceProgress n s).reads = s.reads := rfl
@[simp] theorem advanceProgress_inputs : (advanceProgress n s).inputs = s.inputs := rfl
@[simp] theorem advanceProgress_drawn : (advanceProgress n s).drawn = s.drawn := rfl
end

section
variable (s : State)
@[simp] theorem releaseBuffers_params : (releaseBuffers s).params = s.params := rfl
@[simp] theorem releaseBuffers_crc : (releaseBuffers s).crc = s.crc := rfl
@[simp] theorem releaseBuffers_z : (releaseBuffers s).z = s.z := rfl
@[simp] theorem releaseBuffers_status : (releaseBuffers s).status = s.status := rfl
@[simp] theorem releaseBuffers_cause : (releaseBuffers s).cause = s.cause := rfl
@[simp] theorem releaseBuffers_cfg : (releaseBuffers s).cfg = s.cfg := rfl
@[simp] theorem releaseBuffers_cfgs : (releaseBuffers s).cfgs = s.cfgs := rfl
@[simp] theorem releaseBuffers_base : (releaseBuffers s).base = s.base := rfl
@[simp] theorem releaseBuffers_len : (releaseBuffers s).len = s.len := rfl
@[simp] theorem releaseBuffers_ilen : (releaseBuffers s).ilen = s.ilen := rfl
@[simp] theorem releaseBuffers_off : (releaseBuffers s).off = s.off := rfl
@[simp] theorem releaseBuffers_rem : (releaseBuffers s).rem = s.rem := rfl
@[simp] theorem releaseBuffers_retry : (releaseBuffers s).retry = s.retry := rfl
@[simp] theorem releaseBuffers_seq : (releaseBuffers s).seq = s.seq := rfl
@[simp] theorem releaseBuffers_scratch : (releaseBuffers s).scratch = Scratch.empty := rfl
@[simp] theorem releaseBuffers_obuf : (releaseBuffers s).obuf = s.obuf := rfl
@[simp] theorem releaseBuffers_ibuf : (releaseBuffers s).ibuf = s.ibuf := rfl
@[simp] theorem releaseBuffers_trace : (releaseBuffers s).trace = s.trace := rfl
@[simp] theorem releaseBuffers_reads : (releaseBuffers s).reads = s.reads := rfl
@[simp] theorem releaseBuffers_inputs : (releaseBuffers s).inputs = s.inputs := rfl
@[simp] theorem releaseBuffers_drawn : (releaseBuffers s).drawn = s.drawn := rfl
end

section
variable (s : State)
@[simp] theorem leaveOperation_params : (leaveOperation s).params = s.params := rfl
@[simp] theorem leaveOperation_crc : (leaveOperation s).crc = s.crc := rfl
@[simp] theorem leaveOperation_z : (leaveOperation s).z = s.z := rfl
@[simp] theorem leaveOperation_status : (leaveOperation s).status = s.status := rfl
@[simp] theorem leaveOperation_cause : (leaveOperation s).cause = s.cause := rfl
@[simp] theorem leaveOperation_cfg : (leaveOperation s).cfg = s.cfg := rfl
@[simp] theorem leaveOperation_cfgs : (leaveOperation s).cfgs = s.cfgs := rfl
@[simp] theorem leaveOperation_base : (leaveOperation s).base = s.base := rfl
@[simp] theorem leaveOperation_len : (leaveOperation s).len = s.len := rfl
@[simp] theorem leaveOperation_ilen : (leaveOperation s).ilen = s.ilen := rfl
@[simp] theorem leaveOperation_off : (leaveOperation s).off = s.off := rfl
@[simp] theorem leaveOperation_rem : (leaveOperation s).rem = s.rem := rfl
@[simp] theorem leaveOperation_retry : (leaveOperation s).retry = s.retry := rfl
@[simp] theorem leaveOperation_seq : (leaveOperation s).seq = Seq.idle := rfl
@[simp] theorem leaveOperation_scratch : (leaveOperation s).scratch = Scratch.empty := rfl
@[simp] theorem leaveOperation_obuf : (leaveOperation s).obuf = s.obuf := rfl
@[simp] theorem leaveOperation_ibuf : (leaveOperation s).ibuf = s.ibuf := rfl
@[simp] theorem leaveOperation_trace : (leaveOperation s).trace = s.trace := rfl
@[simp] theorem leaveOperation_reads : (leaveOperation s).reads = s.reads := rfl
@[simp] theorem leaveOperation_inputs : (leaveOperation s).inputs = s.inputs := rfl
@[simp] theorem leaveOperation_drawn : (leaveOperation s).drawn = s.drawn := rfl
end

section
variable (s : State)
@[simp] theorem finish_params : (finish s).params = s.params := rfl
@[simp] theorem finish_crc : (finish s).crc = s.crc := rfl
@[simp] theorem finish_z : (finish s).z = s.z := rfl
@[simp] theorem finish_status : (finish s).status = { state := .done, err := .none } := rfl
@[simp] theorem finish_cause : (finish s).cause = s.cause := rfl
@[simp] theorem finish_cfg : (finish s).cfg = s.cfg := rfl
@[simp] theorem finish_cfgs : (finish s).cfgs = s.cfgs := rfl
@[simp] theorem finish_base : (finish s).base = s.base := rfl
@[simp] theorem finish_len : (finish s).len = s.len := rfl
@[simp] theorem finish_ilen : (finish s).ilen = s.ilen := rfl
@[simp] theorem finish_off : (finish s).off = s.off := rfl
@[simp] theorem finish_rem : (finish s).rem = s.rem := rfl
@[simp] theorem finish_retry : (finish s).retry = s.retry := rfl
@[simp] theorem finish_seq : (finish s).seq = Seq.idle := rfl
@[simp] theorem finish_scratch : (finish s).scratch = Scratch.empty := rfl
@[simp] theorem finish_obuf : (finish s).obuf = s.obuf := rfl
@[simp] theorem finish_ibuf : (finish s).ibuf = s.ibuf := rfl
@[simp] theorem finish_trace : (finish s).trace = s.trace := rfl
@[simp] theorem finish_reads : (finish s).reads = s.reads := rfl
@[simp] theorem finish_inputs : (finish s).inputs = s.inputs := rfl
@[simp] theorem finish_drawn : (finish s).drawn = s.drawn := rfl
end

section
variable (k : ErrKind) (s : State)
@[simp] theorem reportError_params : (reportError k s).params = s.params := rfl
@[simp] theorem reportError_crc : (reportError k s).crc = s.crc := rfl
@[simp] theorem reportError_z : (reportError k s).z = s.z := rfl
@[simp] theorem reportError_status : (reportError k s).status = { state := .err, err := k } := rfl
@[simp] theorem reportError_cause : (reportError k s).cause = s.cause := rfl
@[simp] theorem reportError_cfg : (reportError k s).cfg = s.cfg := rfl
@[simp] theorem reportError_cfgs : (reportError k s).cfgs = s.cfgs := rfl
@[simp] theorem reportError_base : (reportError k s).base = s.base := rfl
@[simp] theorem reportError_len : (reportError k s).len = s.len := rfl
@[simp] theorem reportError_ilen : (reportError k s).ilen = s.ilen := rfl
@[simp] theorem reportError_off : (reportError k s).off = s.off := rfl
@[simp] theorem reportError_rem : (reportError k s).rem = s.rem := rfl
@[simp] theorem reportError_retry : (reportError k s).retry = s.retry := rfl
@[simp] theorem reportError_seq : (reportError k s).seq = s.seq := rfl
@[simp] theorem reportError_scratch : (reportError k s).scratch = s.scratch := rfl
@[simp] theorem reportError_obuf : (reportError k s).obuf = s.obuf := rfl
@[simp] theorem reportError_ibuf : (reportError k s).ibuf = s.ibuf := rfl
@[simp] theorem reportError_trace : (reportError k s).trace = s.trace := rfl
@[simp] theorem reportError_reads : (reportError k s).reads = s.reads := rfl
@[simp] theorem reportError_inputs : (reportError k s).inputs = s.inputs := rfl
@[simp] theorem reportError_drawn : (reportError k s).drawn = s.drawn := rfl
end

section
variable (e : Raised) (s : State)
@[simp] theorem raise_params : (raise e s).params = s.params := rfl
@[simp] theorem raise_crc : (raise e s).crc = s.crc := rfl
@[simp] theorem raise_z : (raise e s).z = s.z := rfl
@[simp] theorem raise_status : (raise e s).status = { state := .err, err := e.kind } := rfl
@[simp] theorem raise_cause : (raise e s).cause = e.causeAfter s.cause := rfl
@[simp] theorem raise_cfg : (raise e s).cfg = s.cfg := rfl
@[simp] theorem raise_cfgs : (raise e s).cfgs = s.cfgs := rfl
@[simp] theorem raise_base : (raise e s).base = s.base := rfl
@[simp] theorem raise_len : (raise e s).len = s.len := rfl
@[simp] theorem raise_ilen : (raise e s).ilen = s.ilen := rfl
@[simp] theorem raise_off : (raise e s).off = s.off := rfl
@[simp] theorem raise_rem : (raise e s).rem = s.rem := rfl
@[simp] theorem raise_retry : (raise e s).retry = s.retry := rfl
@[simp] theorem raise_seq : (raise e s).seq = Seq.idle := rfl
@[simp] theorem raise_scratch : (raise e s).scratch = Scratch.empty := rfl
@[simp] theorem raise_obuf : (raise e s).obuf = s.obuf := rfl
@[simp] theorem raise_ibuf : (raise e s).ibuf = s.ibuf := rfl
@[simp] theorem raise_trace : (raise e s).trace = s.trace := rfl
@[simp] theorem raise_reads : (raise e s).reads = s.reads := rfl
@[simp] theorem raise_inputs : (raise e s).inputs = s.inputs := rfl
@[simp] theorem raise_drawn : (raise e s).drawn = s.drawn := rfl
end

section
variable (e : Event) (s : State)
@[simp] theorem emit_params : (emit e s).params = s.params := rfl
@[simp] theorem emit_crc : (emit e s).crc = s.crc := rfl
@[simp] theorem emit_z : (emit e s).z = s.z := rfl
@[simp] theorem emit_status : (emit e s).status = s.status := rfl
@[simp] theorem emit_cause : (emit e s).cause = s.cause := rfl
@[simp] theorem emit_cfg : (emit e s).cfg = s.cfg := rfl
@[simp] theorem emit_cfgs : (emit e s).cfgs = s.cfgs := rfl
@[simp] theorem emit_base : (emit e s).base = s.base := rfl
@[simp] theorem emit_len : (emit e s).len = s.len := rfl
@[simp] theorem emit_ilen : (emit e s).ilen = s.ilen := rfl
@[simp] theorem emit_off : (emit e s).off = s.off := rfl
@[simp] theorem emit_rem : (emit e s).rem = s.rem := rfl
@[simp] theorem emit_retry : (emit e s).retry = s.retry := rfl
@[simp] theorem emit_seq : (emit e s).seq = s.seq := rfl
@[simp] theorem emit_scratch : (emit e s).scratch = s.scratch := rfl
@[simp] theorem emit_obuf : (emit e s).obuf = s.obuf := rfl
@[simp] theorem emit_ibuf : (emit e s).ibuf = s.ibuf := rfl
@[simp] theorem emit_trace : (emit e s).trace = e :: s.trace := rfl
@[simp] theorem emit_reads : (emit e s).reads = s.reads := rfl
@[simp] theorem emit_inputs : (emit e s).inputs = s.inputs := rfl
@[simp] theorem emit_drawn : (emit e s).drawn = s.drawn := rfl
end

section
variable (o : EventOutcome) (s : State)
@[simp] theorem settleRequest_params : (settleRequest o s).params = s.params := rfl
@[simp] theorem settleRequest_crc : (settleRequest o s).crc = s.crc := rfl
@[simp] theorem settleRequest_z : (settleRequest o s).z = s.z := rfl
@[simp] theorem settleRequest_status : (settleRequest o s).status = s.status := rfl
@[simp] theorem settleRequest_cause : (settleRequest o s).cause = s.cause := rfl
@[simp] theorem settleRequest_cfg : (settleRequest o s).cfg = s.cfg := rfl
@[simp] theorem settleRequest_cfgs : (settleRequest o s).cfgs = s.cfgs := rfl
@[simp] theorem settleRequest_base : (settleRequest o s).base = s.base := rfl
@[simp] theorem settleRequest_len : (settleRequest o s).len = s.len := rfl
@[simp] theorem settleRequest_ilen : (settleRequest o s).ilen = s.ilen := rfl
@[simp] theorem settleRequest_off : (settleRequest o s).off = s.off := rfl
@[simp] theorem settleRequest_rem : (settleRequest o s).rem = s.rem := rfl
@[simp] theorem settleRequest_retry : (settleRequest o s).retry = s.retry := rfl
@[simp] theorem settleRequest_seq : (settleRequest o s).seq = s.seq := rfl
@[simp] theorem settleRequest_scratch : (settleRequest o s).scratch = s.scratch := rfl
@[simp] theorem settleRequest_obuf : (settleRequest o s).obuf = s.obuf := rfl
@[simp] theorem settleRequest_ibuf : (settleRequest o s).ibuf = s.ibuf := rfl
@[simp] theorem settleRequest_trace : (settleRequest o s).trace = settleNewest o s.trace := rfl
@[simp] theorem settleRequest_reads : (settleRequest o s).reads = s.reads := rfl
@[simp] theorem settleRequest_inputs : (settleRequest o s).inputs = s.inputs := rfl
@[simp] theorem settleRequest_drawn : (settleRequest o s).drawn = s.drawn := rfl
end

section
variable (s : State)
@[simp] theorem clearReport_params : (clearReport s).params = s.params := rfl
@[simp] theorem clearReport_crc : (clearReport s).crc = s.crc := rfl
@[simp] theorem clearReport_z : (clearReport s).z = s.z := rfl
@[simp] theorem clearReport_status : (clearReport s).status = { state := .idle, err := .none } := rfl
@[simp] theorem clearReport_cause : (clearReport s).cause = s.cause := rfl
@[simp] theorem clearReport_cfg : (clearReport s).cfg = s.cfg := rfl
@[simp] theorem clearReport_cfgs : (clearReport s).cfgs = s.cfgs := rfl
@[simp] theorem clearReport_base : (clearReport s).base = s.base := rfl
@[simp] theorem clearReport_len : (clearReport s).len = s.len := rfl
@[simp] theorem clearReport_ilen : (clearReport s).ilen = s.ilen := rfl
@[simp] theorem clearReport_off : (clearReport s).off = s.off := rfl
@[simp] theorem clearReport_rem : (clearReport s).rem = s.rem := rfl
@[simp] theorem clearReport_retry : (clearReport s).retry = s.retry := rfl
@[simp] theorem clearReport_seq : (clearReport s).seq = s.seq := rfl
@[simp] theorem clearReport_scratch : (clearReport s).scratch = s.scratch := rfl
@[simp] theorem clearReport_obuf : (clearReport s).obuf = s.obuf := rfl
@[simp] theorem clearReport_ibuf : (clearReport s).ibuf = s.ibuf := rfl
@[simp] theorem clearReport_trace : (clearReport s).trace = s.trace := rfl
@[simp] theorem clearReport_reads : (clearReport s).reads = s.reads := rfl
@[simp] theorem clearReport_inputs : (clearReport s).inputs = s.inputs := rfl
@[simp] theorem clearReport_drawn : (clearReport s).drawn = s.drawn := rfl
end

section
variable (s : State)
@[simp] theorem abandonRequest_params : (abandonRequest s).params = s.params := by unfold abandonRequest; split <;> rfl
@[simp] theorem abandonRequest_crc : (abandonRequest s).crc = s.crc := by unfold abandonRequest; split <;> rfl
@[simp] theorem abandonRequest_z : (abandonRequest s).z = s.z := by unfold abandonRequest; split <;> rfl
@[simp] theorem abandonRequest_status : (abandonRequest s).status = s.status := by unfold abandonRequest; split <;> rfl
@[simp] theorem abandonRequest_cause : (abandonRequest s).cause = s.cause := by unfold abandonRequest; split <;> rfl
@[simp] theorem abandonRequest_cfg : (abandonRequest s).cfg = s.cfg := by unfold abandonRequest; split <;> rfl
@[simp] theorem abandonRequest_cfgs : (abandonRequest s).cfgs = s.cfgs := by unfold abandonRequest; split <;> rfl
@[simp] theorem abandonRequest_base : (abandonRequest s).base = s.base := by unfold abandonRequest; split <;> rfl
@[simp] theorem abandonRequest_len : (abandonRequest s).len = s.len := by unfold abandonRequest; split <;> rfl
@[simp] theorem abandonRequest_ilen : (abandonRequest s).ilen = s.ilen := by unfold abandonRequest; split <;> rfl
@[simp] theorem abandonRequest_off : (abandonRequest s).off = s.off := by unfold abandonRequest; split <;> rfl
@[simp] theorem abandonRequest_rem : (abandonRequest s).rem = s.rem := by unfold abandonRequest; split <;> rfl
@[simp] theorem abandonRequest_retry : (abandonRequest s).retry = s.retry := by unfold abandonRequest; split <;> rfl
@[simp] theorem abandonRequest_seq : (abandonRequest s).seq = s.seq := by unfold abandonRequest; split <;> rfl
@[simp] theorem abandonRequest_scratch : (abandonRequest s).scratch = s.scratch := by unfold abandonRequest; split <;> rfl
@[simp] theorem abandonRequest_obuf : (abandonRequest s).obuf = s.obuf := by unfold abandonRequest; split <;> rfl
@[simp] theorem abandonRequest_ibuf : (abandonRequest s).ibuf = s.ibuf := by unfold abandonRequest; split <;> rfl
@[simp] theorem abandonRequest_reads : (abandonRequest s).reads = s.reads := by unfold abandonRequest; split <;> rfl
@[simp] theorem abandonRequest_inputs : (abandonRequest s).inputs = s.inputs := by unfold abandonRequest; split <;> rfl
@[simp] theorem abandonRequest_drawn : (abandonRequest s).drawn = s.drawn := by unfold abandonRequest; split <;> rfl
end

section
variable (s : State)
@[simp] theorem cancelOperation_params : (cancelOperation s).params = s.params := by simp [cancelOperation]
@[simp] theorem cancelOperation_crc : (cancelOperation s).crc = s.crc := by simp [cancelOperation]
@[simp] theorem cancelOperation_z : (cancelOperation s).z = s.z := by simp [cancelOperation]
@[simp] theorem cancelOperation_status : (cancelOperation s).status = { state := .idle, err := .none } := rfl
@[simp] theorem cancelOperation_cause : (cancelOperation s).cause = s.cause := by simp [cancelOperation]
@[simp] theorem cancelOperation_cfg : (cancelOperation s).cfg = s.cfg := by simp [cancelOperation]
@[simp] theorem cancelOperation_cfgs : (cancelOperation s).cfgs = s.cfgs := by simp [cancelOperation]
@[simp] theorem cancelOperation_base : (cancelOperation s).base = s.base := by simp [cancelOperation]
@[simp] theorem cancelOperation_len : (cancelOperation s).len = s.len := by simp [cancelOperation]
@[simp] theorem cancelOperation_ilen : (cancelOperation s).ilen = s.ilen := by simp [cancelOperation]
@[simp] theorem cancelOperation_off : (cancelOperation s).off = s.off := by simp [cancelOperation]
@[simp] theorem cancelOperation_rem : (cancelOperation s).rem = s.rem := by simp [cancelOperation]
@[simp] theorem cancelOperation_retry : (cancelOperation s).retry = s.retry := by simp [cancelOperation]
@[simp] theorem cancelOperation_seq : (cancelOperation s).seq = Seq.idle := rfl
@[simp] theorem cancelOperation_scratch : (cancelOperation s).scratch = Scratch.empty := rfl
@[simp] theorem cancelOperation_obuf : (cancelOperation s).obuf = s.obuf := by simp [cancelOperation]
@[simp] theorem cancelOperation_ibuf : (cancelOperation s).ibuf = s.ibuf := by simp [cancelOperation]
@[simp] theorem cancelOperation_reads : (cancelOperation s).reads = s.reads := by simp [cancelOperation]
@[simp] theorem cancelOperation_inputs : (cancelOperation s).inputs = s.inputs := by simp [cancelOperation]
@[simp] theorem cancelOperation_drawn : (cancelOperation s).drawn = s.drawn := by simp [cancelOperation]
end

/-- ABORT settles the newest event exactly when it is an outstanding bus request's (R97). -/
@[simp] theorem cancelOperation_trace (s : State) :
    (cancelOperation s).trace = if s.seq.phase = .attempt then settleNewest .cancelled s.trace else s.trace := by
  simp only [cancelOperation, clearReport_trace, leaveOperation_trace, abandonRequest]
  split <;> rfl

section
variable (s : State)
@[simp] theorem issueAttempt_params : (issueAttempt s).params = s.params := by unfold issueAttempt; split <;> rfl
@[simp] theorem issueAttempt_z : (issueAttempt s).z = s.z := by unfold issueAttempt; split <;> rfl
@[simp] theorem issueAttempt_status : (issueAttempt s).status = s.status := by unfold issueAttempt; split <;> rfl
@[simp] theorem issueAttempt_cause : (issueAttempt s).cause = s.cause := by unfold issueAttempt; split <;> rfl
@[simp] theorem issueAttempt_cfg : (issueAttempt s).cfg = s.cfg := by unfold issueAttempt; split <;> rfl
@[simp] theorem issueAttempt_cfgs : (issueAttempt s).cfgs = s.cfgs := by unfold issueAttempt; split <;> rfl
@[simp] theorem issueAttempt_base : (issueAttempt s).base = s.base := by unfold issueAttempt; split <;> rfl
@[simp] theorem issueAttempt_len : (issueAttempt s).len = s.len := by unfold issueAttempt; split <;> rfl
@[simp] theorem issueAttempt_ilen : (issueAttempt s).ilen = s.ilen := by unfold issueAttempt; split <;> rfl
@[simp] theorem issueAttempt_off : (issueAttempt s).off = s.off := by unfold issueAttempt; split <;> rfl
@[simp] theorem issueAttempt_rem : (issueAttempt s).rem = s.rem := by unfold issueAttempt; split <;> rfl
@[simp] theorem issueAttempt_retry : (issueAttempt s).retry = s.retry := by unfold issueAttempt; split <;> rfl
@[simp] theorem issueAttempt_obuf : (issueAttempt s).obuf = s.obuf := by unfold issueAttempt; split <;> rfl
@[simp] theorem issueAttempt_ibuf : (issueAttempt s).ibuf = s.ibuf := by unfold issueAttempt; split <;> rfl
@[simp] theorem issueAttempt_reads : (issueAttempt s).reads = s.reads := by unfold issueAttempt; split <;> rfl
@[simp] theorem issueAttempt_inputs : (issueAttempt s).inputs = s.inputs := by unfold issueAttempt; split <;> rfl
@[simp] theorem issueAttempt_drawn : (issueAttempt s).drawn = s.drawn := by unfold issueAttempt; split <;> rfl
end

section
variable (c : Call) (s : State)
@[simp] theorem beginTransaction_params : (beginTransaction c s).params = s.params := by simp [beginTransaction]
@[simp] theorem beginTransaction_z : (beginTransaction c s).z = s.z := by simp [beginTransaction]
@[simp] theorem beginTransaction_status : (beginTransaction c s).status = s.status := by simp [beginTransaction]
@[simp] theorem beginTransaction_cause : (beginTransaction c s).cause = s.cause := by simp [beginTransaction]
@[simp] theorem beginTransaction_cfg : (beginTransaction c s).cfg = s.cfg := by simp [beginTransaction]
@[simp] theorem beginTransaction_cfgs : (beginTransaction c s).cfgs = s.cfgs := by simp [beginTransaction]
@[simp] theorem beginTransaction_base : (beginTransaction c s).base = s.base := by simp [beginTransaction]
@[simp] theorem beginTransaction_len : (beginTransaction c s).len = s.len := by simp [beginTransaction]
@[simp] theorem beginTransaction_ilen : (beginTransaction c s).ilen = s.ilen := by simp [beginTransaction]
@[simp] theorem beginTransaction_off : (beginTransaction c s).off = s.off := by simp [beginTransaction]
@[simp] theorem beginTransaction_rem : (beginTransaction c s).rem = s.rem := by simp [beginTransaction]
@[simp] theorem beginTransaction_obuf : (beginTransaction c s).obuf = s.obuf := by simp [beginTransaction]
@[simp] theorem beginTransaction_ibuf : (beginTransaction c s).ibuf = s.ibuf := by simp [beginTransaction]
@[simp] theorem beginTransaction_reads : (beginTransaction c s).reads = s.reads := by simp [beginTransaction]
@[simp] theorem beginTransaction_inputs : (beginTransaction c s).inputs = s.inputs := by simp [beginTransaction]
@[simp] theorem beginTransaction_drawn : (beginTransaction c s).drawn = s.drawn := by simp [beginTransaction]
end

section
variable (inp : List Byte) (s : State)
@[simp] theorem afterCheck_params : (afterCheck inp s).params = s.params := by unfold afterCheck; dsimp only; split <;> rfl
@[simp] theorem afterCheck_status : (afterCheck inp s).status = s.status := by unfold afterCheck; dsimp only; split <;> rfl
@[simp] theorem afterCheck_cause : (afterCheck inp s).cause = s.cause := by unfold afterCheck; dsimp only; split <;> rfl
@[simp] theorem afterCheck_cfg : (afterCheck inp s).cfg = s.cfg := by unfold afterCheck; dsimp only; split <;> rfl
@[simp] theorem afterCheck_cfgs : (afterCheck inp s).cfgs = s.cfgs := by unfold afterCheck; dsimp only; split <;> rfl
@[simp] theorem afterCheck_base : (afterCheck inp s).base = s.base := by unfold afterCheck; dsimp only; split <;> rfl
@[simp] theorem afterCheck_len : (afterCheck inp s).len = s.len := by unfold afterCheck; dsimp only; split <;> rfl
@[simp] theorem afterCheck_ilen : (afterCheck inp s).ilen = s.ilen := by unfold afterCheck; dsimp only; split <;> rfl
@[simp] theorem afterCheck_off : (afterCheck inp s).off = s.off := by unfold afterCheck; dsimp only; split <;> rfl
@[simp] theorem afterCheck_rem : (afterCheck inp s).rem = s.rem := by unfold afterCheck; dsimp only; split <;> rfl
@[simp] theorem afterCheck_retry : (afterCheck inp s).retry = s.retry := by unfold afterCheck; dsimp only; split <;> rfl
@[simp] theorem afterCheck_seq : (afterCheck inp s).seq = s.seq := by unfold afterCheck; dsimp only; split <;> rfl
@[simp] theorem afterCheck_obuf : (afterCheck inp s).obuf = s.obuf := by unfold afterCheck; dsimp only; split <;> rfl
@[simp] theorem afterCheck_ibuf : (afterCheck inp s).ibuf = s.ibuf := by unfold afterCheck; dsimp only; split <;> rfl
@[simp] theorem afterCheck_trace : (afterCheck inp s).trace = s.trace := by unfold afterCheck; dsimp only; split <;> rfl
@[simp] theorem afterCheck_reads : (afterCheck inp s).reads = s.reads := by unfold afterCheck; dsimp only; split <;> rfl
@[simp] theorem afterCheck_inputs : (afterCheck inp s).inputs = s.inputs := by unfold afterCheck; dsimp only; split <;> rfl
@[simp] theorem afterCheck_drawn : (afterCheck inp s).drawn = s.drawn := by unfold afterCheck; dsimp only; split <;> rfl
end

section
variable (s : State)
@[simp] theorem restoreCrc_params : (restoreCrc s).params = s.params := rfl
@[simp] theorem restoreCrc_crc :
    (restoreCrc s).crc = if checksRead s then s.scratch.heldCrc else s.crc := rfl
@[simp] theorem restoreCrc_z : (restoreCrc s).z = s.z := rfl
@[simp] theorem restoreCrc_status : (restoreCrc s).status = s.status := rfl
@[simp] theorem restoreCrc_cause : (restoreCrc s).cause = s.cause := rfl
@[simp] theorem restoreCrc_cfg : (restoreCrc s).cfg = s.cfg := rfl
@[simp] theorem restoreCrc_cfgs : (restoreCrc s).cfgs = s.cfgs := rfl
@[simp] theorem restoreCrc_base : (restoreCrc s).base = s.base := rfl
@[simp] theorem restoreCrc_len : (restoreCrc s).len = s.len := rfl
@[simp] theorem restoreCrc_ilen : (restoreCrc s).ilen = s.ilen := rfl
@[simp] theorem restoreCrc_off : (restoreCrc s).off = s.off := rfl
@[simp] theorem restoreCrc_rem : (restoreCrc s).rem = s.rem := rfl
@[simp] theorem restoreCrc_retry : (restoreCrc s).retry = s.retry := rfl
@[simp] theorem restoreCrc_seq : (restoreCrc s).seq = s.seq := rfl
@[simp] theorem restoreCrc_scratch : (restoreCrc s).scratch = s.scratch := rfl
@[simp] theorem restoreCrc_obuf : (restoreCrc s).obuf = s.obuf := rfl
@[simp] theorem restoreCrc_ibuf : (restoreCrc s).ibuf = s.ibuf := rfl
@[simp] theorem restoreCrc_trace : (restoreCrc s).trace = s.trace := rfl
@[simp] theorem restoreCrc_reads : (restoreCrc s).reads = s.reads := rfl
@[simp] theorem restoreCrc_inputs : (restoreCrc s).inputs = s.inputs := rfl
@[simp] theorem restoreCrc_drawn : (restoreCrc s).drawn = s.drawn := rfl
end

section
variable (o : BusOutcome) (s : State)
@[simp] theorem receive_params : (receive o s).params = s.params := by cases o <;> simp [receive]
@[simp] theorem receive_status : (receive o s).status = s.status := by cases o <;> simp [receive]
@[simp] theorem receive_cause : (receive o s).cause = s.cause := by cases o <;> simp [receive]
@[simp] theorem receive_cfg : (receive o s).cfg = s.cfg := by cases o <;> simp [receive]
@[simp] theorem receive_cfgs : (receive o s).cfgs = s.cfgs := by cases o <;> simp [receive]
@[simp] theorem receive_base : (receive o s).base = s.base := by cases o <;> simp [receive]
@[simp] theorem receive_len : (receive o s).len = s.len := by cases o <;> simp [receive]
@[simp] theorem receive_ilen : (receive o s).ilen = s.ilen := by cases o <;> simp [receive]
@[simp] theorem receive_off : (receive o s).off = s.off := by cases o <;> simp [receive]
@[simp] theorem receive_rem : (receive o s).rem = s.rem := by cases o <;> simp [receive]
@[simp] theorem receive_retry : (receive o s).retry = s.retry := by cases o <;> simp [receive]
@[simp] theorem receive_seq : (receive o s).seq = s.seq := by cases o <;> simp [receive]
@[simp] theorem receive_obuf : (receive o s).obuf = s.obuf := by cases o <;> simp [receive]
@[simp] theorem receive_ibuf : (receive o s).ibuf = s.ibuf := by cases o <;> simp [receive]
@[simp] theorem receive_trace : (receive o s).trace = s.trace := by cases o <;> simp [receive]
@[simp] theorem receive_reads : (receive o s).reads = s.reads := by cases o <;> simp [receive]
@[simp] theorem receive_inputs : (receive o s).inputs = s.inputs := by cases o <;> simp [receive]
@[simp] theorem receive_drawn : (receive o s).drawn = s.drawn := by cases o <;> simp [receive]
end

section
variable (o : BusOutcome) (s : State)
@[simp] theorem answered_params : (answered o s).params = s.params := by simp [answered]
@[simp] theorem answered_status : (answered o s).status = s.status := by simp [answered]
@[simp] theorem answered_cause : (answered o s).cause = s.cause := by simp [answered]
@[simp] theorem answered_cfg : (answered o s).cfg = s.cfg := by simp [answered]
@[simp] theorem answered_cfgs : (answered o s).cfgs = s.cfgs := by simp [answered]
@[simp] theorem answered_base : (answered o s).base = s.base := by simp [answered]
@[simp] theorem answered_len : (answered o s).len = s.len := by simp [answered]
@[simp] theorem answered_ilen : (answered o s).ilen = s.ilen := by simp [answered]
@[simp] theorem answered_off : (answered o s).off = s.off := by simp [answered]
@[simp] theorem answered_rem : (answered o s).rem = s.rem := by simp [answered]
@[simp] theorem answered_retry : (answered o s).retry = s.retry := by simp [answered]
@[simp] theorem answered_obuf : (answered o s).obuf = s.obuf := by simp [answered]
@[simp] theorem answered_ibuf : (answered o s).ibuf = s.ibuf := by simp [answered]
@[simp] theorem answered_reads : (answered o s).reads = s.reads := by simp [answered]
@[simp] theorem answered_inputs : (answered o s).inputs = s.inputs := by simp [answered]
@[simp] theorem answered_drawn : (answered o s).drawn = s.drawn := by simp [answered]
@[simp] theorem answered_seq : (answered o s).seq = { s.seq with phase := .idle } := by simp [answered]
@[simp] theorem answered_trace : (answered o s).trace = settleNewest o.shown s.trace := by simp [answered]
end

section
variable (f : Failure) (s : State)
@[simp] theorem afterFailure_params : (afterFailure f s).params = s.params := by unfold afterFailure; split <;> rfl
@[simp] theorem afterFailure_crc : (afterFailure f s).crc = s.crc := by unfold afterFailure; split <;> rfl
@[simp] theorem afterFailure_z : (afterFailure f s).z = s.z := by unfold afterFailure; split <;> rfl
@[simp] theorem afterFailure_cfg : (afterFailure f s).cfg = s.cfg := by unfold afterFailure; split <;> rfl
@[simp] theorem afterFailure_cfgs : (afterFailure f s).cfgs = s.cfgs := by unfold afterFailure; split <;> rfl
@[simp] theorem afterFailure_base : (afterFailure f s).base = s.base := by unfold afterFailure; split <;> rfl
@[simp] theorem afterFailure_len : (afterFailure f s).len = s.len := by unfold afterFailure; split <;> rfl
@[simp] theorem afterFailure_ilen : (afterFailure f s).ilen = s.ilen := by unfold afterFailure; split <;> rfl
@[simp] theorem afterFailure_off : (afterFailure f s).off = s.off := by unfold afterFailure; split <;> rfl
@[simp] theorem afterFailure_rem : (afterFailure f s).rem = s.rem := by unfold afterFailure; split <;> rfl
@[simp] theorem afterFailure_obuf : (afterFailure f s).obuf = s.obuf := by unfold afterFailure; split <;> rfl
@[simp] theorem afterFailure_ibuf : (afterFailure f s).ibuf = s.ibuf := by unfold afterFailure; split <;> rfl
@[simp] theorem afterFailure_reads : (afterFailure f s).reads = s.reads := by unfold afterFailure; split <;> rfl
@[simp] theorem afterFailure_inputs : (afterFailure f s).inputs = s.inputs := by unfold afterFailure; split <;> rfl
@[simp] theorem afterFailure_drawn : (afterFailure f s).drawn = s.drawn := by unfold afterFailure; split <;> rfl
end

/-- Issuing an attempt moves to ATTEMPT and nothing else in SEQ. -/
@[simp] theorem issueAttempt_seq (s : State) : (issueAttempt s).seq = { s.seq with phase := .attempt } := by
  unfold issueAttempt; split <;> rfl

@[simp] theorem issueAttempt_call (s : State) : (issueAttempt s).scratch.call = s.scratch.call := by
  unfold issueAttempt; split <;> rfl

@[simp] theorem issueAttempt_heldCrc (s : State) : (issueAttempt s).scratch.heldCrc = s.crc := by
  unfold issueAttempt; split <;> rfl

@[simp] theorem issueAttempt_rxb (s : State) : (issueAttempt s).scratch.rxb = [] := by
  unfold issueAttempt; split <;> rfl

@[simp] theorem beginTransaction_seq (c : Call) (s : State) :
    (beginTransaction c s).seq = { s.seq with phase := .attempt } := by simp [beginTransaction]

@[simp] theorem beginTransaction_call (c : Call) (s : State) : (beginTransaction c s).scratch.call = c := by
  simp [beginTransaction]

@[simp] theorem beginTransaction_rxb (c : Call) (s : State) : (beginTransaction c s).scratch.rxb = [] := by
  simp [beginTransaction]

@[simp] theorem beginTransaction_retry (c : Call) (s : State) :
    (beginTransaction c s).retry = s.cfgs.maxRetries := by simp [beginTransaction]

@[simp] theorem afterCheck_call (inp : List Byte) (s : State) : (afterCheck inp s).scratch.call = s.scratch.call := by
  unfold afterCheck; dsimp only; split <;> rfl

@[simp] theorem afterCheck_txb (inp : List Byte) (s : State) : (afterCheck inp s).scratch.txb = s.scratch.txb := by
  unfold afterCheck; dsimp only; split <;> rfl

@[simp] theorem receive_call (o : BusOutcome) (s : State) : (receive o s).scratch.call = s.scratch.call := by
  cases o <;> simp [receive]

@[simp] theorem receive_txb (o : BusOutcome) (s : State) : (receive o s).scratch.txb = s.scratch.txb := by
  cases o <;> simp [receive]

@[simp] theorem answered_call (o : BusOutcome) (s : State) : (answered o s).scratch.call = s.scratch.call := by
  simp [answered]

@[simp] theorem answered_txb (o : BusOutcome) (s : State) : (answered o s).scratch.txb = s.scratch.txb := by
  simp [answered]

end Sys2Proof.Machine
end

