-- ==== Sys2Proof/Laws/Operations.lean ====
section
/-! SUPPORT. One lemma per shared operation that says once everything it can do, for later proofs to cite. -/

namespace Sys2Proof.Machine

/-! ### Checks and acceptance -/

@[simp] theorem rawWriteFits_iff (s : State) :
    rawWriteFits s = true ↔ s.len.toNat + s.cfgs.pecOnWrite.toNat ≤ 37 := by
  unfold rawWriteFits
  rw [decide_eq_true_eq]
  exact Iff.rfl

@[simp] theorem rawReadFits_iff (s : State) :
    rawReadFits s = true ↔ s.len.toNat ≤ 37 ∧ s.ilen.toNat + s.cfgs.pecOnRead.toNat ≤ 36 := by
  unfold rawReadFits
  rw [Bool.and_eq_true, decide_eq_true_eq, decide_eq_true_eq]
  exact Iff.rfl

theorem busy_iff (s : State) : s.busy = true ↔ s.status.state = .busy := by simp [State.busy]

@[simp] theorem outstanding_iff (s : State) (p : Phase) :
    outstanding s p = true ↔ s.status.state = .busy ∧ s.seq.phase = p := by
  simp [outstanding, State.busy]

@[simp] theorem engineReady_iff (s : State) :
    engineReady s = true ↔ s.status.state = .busy ∧ s.seq.phase = .idle := by
  simp [engineReady, State.busy]

/-- An accepted word that goes on was presented when not BUSY. -/
theorem acceptUnlessBusy_next {s t u : State} (h : acceptUnlessBusy s t = .next u) : s.busy = false ∧ u = t := by
  unfold acceptUnlessBusy at h
  split at h
  · cases h
  · exact ⟨Bool.eq_false_iff.mpr ‹_›, by cases h; rfl⟩

/-- What a decoded operation does to the state when it is accepted. -/
def effectOf : Instr → State → State
  | .cfgRetry imm8, s => { s with cfg := { s.cfg with maxRetries := imm8 } }
  | .cfgPec r w, s => { s with cfg := { s.cfg with pecOnRead := r, pecOnWrite := w } }
  | .cfgTmo imm16, s => { s with cfg := { s.cfg with timeoutMs := imm16 } }
  | .setBase imm16, s => { s with base := imm16 }
  | .setLen imm16, s => { s with len := imm16 }
  | .setIlen imm16, s => { s with ilen := imm16 }
  | .pecClr, s => { s with crc := Config.pecInit }
  | .pecUpd imm8, s => { s with crc := crc8Update s.crc imm8 }
  | .pecAdw, s => { s with crc := crc8Update s.crc (addrWrite s.params) }
  | .pecAdr, s => { s with crc := crc8Update s.crc (addrRead s.params) }
  | .pecChk imm8, s => { s with z := matchFlag s.crc imm8 }
  | .xfW, s => startRawWrite s
  | .xfWr, s => startRawRead s
  | .dfWr, s => startChunkedWrite s
  | .dfRd, s => startChunkedRead s
  | .abort, s =>
    if engineReady s then presentNext (encode .abort) (issueNext s)
    else if s.busy then cancelOperation s
    else clearReport s

/-- Every operation gives its effect as next state, unless it is refused because it is not accepted while BUSY (R90). -/
theorem exec_eq (i : Instr) (s : State) :
    exec i s =
      if s.busy && !Instr.acceptedWhileBusy i then .refused .wordNotAccepted else .next (effectOf i s) := by
  cases i <;> cases h : s.busy <;>
    simp [exec, execCfgRetry, execCfgPec, execCfgTmo, execSetBase, execSetLen, execSetIlen, execPecClr, execPecUpd, execPecAdw,
      execPecAdr, execPecChk, execXfW, execXfWr, execDfWr, execDfRd, execAbort, acceptUnlessBusy, effectOf,
      Instr.acceptedWhileBusy, h] <;>
    split <;> rfl

/-! ### Steps -/

/-- An operation that goes on was accepted, and has its effect. -/
theorem exec_next {i : Instr} {s t : State} (h : exec i s = .next t) :
    (s.busy = true → Instr.acceptedWhileBusy i = true) ∧ t = effectOf i s := by
  rw [exec_eq] at h
  split at h
  · cases h
  · rename_i hb
    simp only [Bool.and_eq_true, Bool.not_eq_true', not_and, Bool.not_eq_false] at hb
    exact ⟨hb, by cases h; rfl⟩

/-- A step that goes on takes the next turn; with none scheduled ENGINE takes s1 or the block waits. -/
theorem step_cases {s t : State} (h : step s = .next t) :
    (s.inputs = [] ∧ t = if engineReady s then issueNext s else s) ∨
    ∃ i rest, s.inputs = i :: rest ∧ perform i { s with inputs := rest } = .next t := by
  unfold step at h
  split at h
  · rename_i hi; exact .inl ⟨hi, by cases h; rfl⟩
  · rename_i i rest hi; exact .inr ⟨i, rest, hi, h⟩

/-- ENGINE's turn goes on when it has an attempt to issue, and issues it. -/
theorem engineIssues_next {s t : State} (h : engineIssues s = .next t) : engineReady s = true ∧ t = issueNext s := by
  unfold engineIssues at h
  split at h
  · exact ⟨‹_›, by cases h; rfl⟩
  · cases h

/-- A step on a known next input. -/
theorem step_cons {s : State} {i : Input} {rest : List Input} (h : s.inputs = i :: rest) :
    step s = perform i { s with inputs := rest } := by simp [step, h]

/-- A presented word that goes on was accepted (R90): a defined one has its effect, an undefined one is reported. -/
theorem presentWord_cases {w : Word} {s t : State} (h : presentWord w s = .next t) :
    (∃ i, decode w = .ok i ∧ (s.busy = true → Instr.acceptedWhileBusy i = true) ∧ t = effectOf i s) ∨
    (∃ e, decode w = .error e ∧ s.busy = false ∧ t = reportError .protocolViolation s) := by
  unfold presentWord at h
  split at h
  · rename_i i hi
    exact .inl ⟨i, hi, exec_next h⟩
  · rename_i e he
    exact .inr ⟨e, he, acceptUnlessBusy_next h⟩

/-- A bus answer that goes on is one the port owes, and it completes the attempt. -/
theorem busAnswers_next {o : BusOutcome} {s t : State} (h : busAnswers o s = .next t) :
    AnswerOk s o ∧ t = completeAttempt o s := by
  unfold busAnswers at h
  split at h
  · rename_i ho
    cases o with
    | ok data =>
      dsimp only at h
      split at h
      · rename_i hd
        exact ⟨⟨ho, by rintro _ ⟨⟩; exact hd, by simp, by simp⟩, by cases h; rfl⟩
      · cases h
    | busError c =>
      dsimp only at h
      split at h
      · rename_i hc
        exact ⟨⟨ho, by simp, by simp, by rintro _ ⟨⟩; exact hc⟩, by cases h; rfl⟩
      · cases h
    | timeout =>
      dsimp only at h
      split at h
      · cases h
      · rename_i ht
        exact ⟨⟨ho, by simp, fun _ => ht, by simp⟩, by cases h; rfl⟩
  · cases h

/-- An answer the port owes completes the attempt. -/
theorem busAnswers_of_ok {o : BusOutcome} {s : State} (h : AnswerOk s o) :
    busAnswers o s = .next (completeAttempt o s) := by
  obtain ⟨ho, hd, ht, hc⟩ := h
  unfold busAnswers
  rw [if_pos ho]
  cases o with
  | ok data => simp [hd data rfl]
  | busError c => simp [hc c rfl]
  | timeout => simp [ht rfl]

/-- A delay's end that goes on is one the port owes, and the attempt is reissued. -/
theorem delayEnds_next {s t : State} (h : delayEnds s = .next t) :
    outstanding s .backoff = true ∧ t = completeBackoff s := by
  unfold delayEnds at h
  split at h
  · exact ⟨‹_›, by cases h; rfl⟩
  · cases h

/-! ### Attempts -/

/-- An answered attempt either succeeds, its buffers released and the operation going on, or fails. -/
theorem completeAttempt_cases (o : BusOutcome) (s : State) :
    (failureOf s o = none ∧ completeAttempt o s = afterSuccess (payloadOf s o) (releaseBuffers (answered o s))) ∨
    (∃ f, failureOf s o = some f ∧ completeAttempt o s = afterFailure f (answered o s)) := by
  unfold completeAttempt
  cases h : failureOf s o with
  | none => exact .inl ⟨rfl, rfl⟩
  | some f => exact .inr ⟨f, rfl, rfl⟩

/-- A failed attempt raises its error with no budget left, and else consumes one retry and backs off. -/
theorem afterFailure_cases (f : Failure) (s : State) :
    (s.retry = 0#8 ∧ afterFailure f s = raise f.raised s) ∨
    (s.retry ≠ 0#8 ∧
      afterFailure f s =
        emit (.d s.params.backoffMs) { s with retry := s.retry - 1#8, seq := { s.seq with phase := .backoff } }) := by
  unfold afterFailure
  split
  · exact .inl ⟨‹_›, rfl⟩
  · exact .inr ⟨‹_›, rfl⟩

/-- The loop's head ends the operation when no byte remains, and else leaves it for s1. -/
theorem continueLoop_cases (s : State) :
    (s.rem = 0#16 ∧ continueLoop s = finish s) ∨ (s.rem ≠ 0#16 ∧ continueLoop s = s) := by
  unfold continueLoop
  split
  · exact .inl ⟨‹_›, rfl⟩
  · exact .inr ⟨‹_›, rfl⟩

/-- XF.W accepted: it waits for s1, or its frame does not fit. -/
theorem startRawWrite_cases (s : State) :
    (s.len.toNat + s.cfg.pecOnWrite.toNat ≤ 37 ∧ startRawWrite s = startOperation .xfw s) ∨
    (37 < s.len.toNat + s.cfg.pecOnWrite.toNat ∧ startRawWrite s = raise .protocolViolation (startOperation .xfw s)) := by
  unfold startRawWrite
  dsimp only
  split
  · rename_i h; exact .inl ⟨by simpa using h, rfl⟩
  · rename_i h; exact .inr ⟨by simpa using h, rfl⟩

/-- XF.WR accepted: it waits for s1, or a frame of it does not fit. -/
theorem startRawRead_cases (s : State) :
    (s.len.toNat ≤ 37 ∧ s.ilen.toNat + s.cfg.pecOnRead.toNat ≤ 36 ∧ startRawRead s = startOperation .xfwr s) ∨
    ((37 < s.len.toNat ∨ 36 < s.ilen.toNat + s.cfg.pecOnRead.toNat) ∧
      startRawRead s = raise .protocolViolation (startOperation .xfwr s)) := by
  unfold startRawRead
  dsimp only
  split
  · rename_i h
    rw [rawReadFits_iff] at h
    exact .inl ⟨h.1, h.2, rfl⟩
  · rename_i h
    rw [rawReadFits_iff, not_and_or, Nat.not_le, Nat.not_le] at h
    exact .inr ⟨h, rfl⟩

/-- How each outcome can fail. -/
theorem failureOf_cases {s : State} {o : BusOutcome} {f : Failure} (h : failureOf s o = some f) :
    (∃ c, o = .busError c ∧ f = .bus c) ∨ (o = .timeout ∧ f = .tmo) ∨
    (∃ inp, o = .ok inp ∧ f = .mismatch ∧ checksRead s = true ∧ readCrc s inp ≠ trailingByte s inp) := by
  cases o with
  | busError c => simp [failureOf] at h; exact .inl ⟨c, rfl, h.symm⟩
  | timeout => simp [failureOf] at h; exact .inr (.inl ⟨rfl, h.symm⟩)
  | ok inp =>
    simp only [failureOf] at h
    split at h
    · rename_i hc
      simp only [Bool.and_eq_true, Bool.not_eq_true', ← Bool.not_eq_true, matchFlag_iff] at hc
      cases h
      exact .inr (.inr ⟨inp, rfl, rfl, hc.1, hc.2⟩)
    · cases h

@[simp] theorem checksRead_iff (s : State) :
    checksRead s = true ↔ s.scratch.call.kind = .wr ∧ s.cfgs.pecOnRead = true := by
  simp [checksRead]

/-- The frame an issued attempt puts in TXB. -/
@[simp] theorem issueAttempt_txb (s : State) : (issueAttempt s).scratch.txb = frameOf s := by
  unfold issueAttempt frameOf; cases h : s.scratch.call.kind <;> simp [emit]

/-- The event an issued attempt appends. -/
theorem issueAttempt_trace (s : State) : (issueAttempt s).trace = requestEvent (issueAttempt s) :: s.trace := by
  unfold requestEvent issueAttempt; cases h : s.scratch.call.kind <;> simp [h, emit, requestedBytes]

/-- What an issued attempt leaves in CRC. -/
theorem issueAttempt_crc (s : State) :
    (issueAttempt s).crc =
      if s.scratch.call.kind = .w then buildCrc s s.scratch.call.out
      else if s.cfgs.pecOnRead then Config.pecInit else s.crc := by
  unfold issueAttempt; cases h : s.scratch.call.kind <;> simp [emit, checksRead, h]

/-! ### What a call depends on -/

theorem frameOf_congr {s t : State} (h1 : t.scratch.call = s.scratch.call) (h2 : t.cfgs = s.cfgs) (h3 : t.params = s.params) :
    frameOf t = frameOf s := by simp [frameOf, buildFrame, h1, h2, h3]

theorem requestedBytes_congr {s t : State} (h1 : t.scratch.call = s.scratch.call) (h2 : t.cfgs = s.cfgs) :
    requestedBytes t = requestedBytes s := by simp [requestedBytes, h1, h2]

theorem failureOf_congr {s t : State} (o : BusOutcome) (h1 : t.scratch.call = s.scratch.call) (h2 : t.cfgs = s.cfgs)
    (h3 : t.params = s.params) : failureOf t o = failureOf s o := by
  cases o <;> simp [failureOf, checksRead, readCrc, trailingByte, h1, h2, h3]

theorem callOf_congr {s t : State} (h1 : t.seq.opk = s.seq.opk) (h2 : t.seq.stage = s.seq.stage) (h3 : t.params = s.params)
    (h4 : t.base = s.base) (h5 : t.len = s.len) (h6 : t.ilen = s.ilen) (h7 : t.off = s.off) (h8 : t.rem = s.rem)
    (h9 : t.obuf = s.obuf) : callOf t = callOf s := by
  have hm : ∀ a n, memRead t .obuf a n = memRead s .obuf a n := fun a n => memRead_congr _ _ _ _ _ h9
  simp [callOf, h1, h2, hm, chunkFrame, blockReadFrame, blockReadBytes, selectFrame, chunkSize, chunkAddress, h3, h4, h5, h6,
    h7, h8]

/-! ### Progress -/

theorem chunkSize_le (s : State) : chunkSize s ≤ 32 ∧ chunkSize s ≤ s.rem.toNat :=
  ⟨Nat.min_le_left _ _, Nat.min_le_right _ _⟩

/-- A chunk counted: OFF moves on by its size. -/
theorem advanceProgress_off_toNat (s : State) (h : s.off.toNat + s.rem.toNat < 65536) :
    (advanceProgress (chunkSize s) s).off.toNat = s.off.toNat + chunkSize s := by
  have := chunkSize_le s
  simp; omega

/-- A chunk counted: REM goes down by its size. -/
theorem advanceProgress_rem_toNat (s : State) :
    (advanceProgress (chunkSize s) s).rem.toNat = s.rem.toNat - chunkSize s := by
  have := chunkSize_le s
  have := s.rem.isLt
  simp [BitVec.toNat_sub]; omega

/-! ### The trace -/

/-- A transaction's start appends one event. -/
theorem beginTransaction_trace (c : Call) (s : State) :
    (beginTransaction c s).trace = requestEvent (beginTransaction c s) :: s.trace := issueAttempt_trace _

theorem settleNewest_tail (o : EventOutcome) (l : List Event) : (settleNewest o l).tail = l.tail := by cases l <;> rfl

theorem settle_isPending (o : EventOutcome) (ho : o ≠ .pending) (e : Event) : (e.settle o).isPending = false := by
  cases e <;> cases o <;> simp [Event.settle, Event.isPending] at *

theorem requestEvent_isPending (s : State) : (requestEvent s).isPending = true := by
  unfold requestEvent; split <;> rfl

/-! ### The read port -/

/-- The read port has exactly the 12 indices of R10. -/
theorem readPort_isSome_iff (s : State) (i : Nat) : (∃ v, readPort s i = some v) ↔ i < 12 := by
  constructor
  · rintro ⟨v, h⟩
    by_contra hc
    unfold readPort at h
    split at h <;> first | omega | cases h
  · intro hi
    interval_cases i <;> exact ⟨_, rfl⟩

end Sys2Proof.Machine
end

