-- ==== Sys2Proof/Laws/Frames.lean ====
section
/-! SUPPORT. The frames of the engine's moves: what s1, the loop head, the completion of an attempt or of a backoff, and the
acceptance of a transaction operation leave unchanged (R14, R20, R28, R50, R200). -/

namespace Sys2Proof.Machine

section
variable (s : State)
@[simp] theorem issueNext_params : (issueNext s).params = s.params := by simp [issueNext]
@[simp] theorem issueNext_z : (issueNext s).z = s.z := by simp [issueNext]
@[simp] theorem issueNext_status : (issueNext s).status = s.status := by simp [issueNext]
@[simp] theorem issueNext_cause : (issueNext s).cause = s.cause := by simp [issueNext]
@[simp] theorem issueNext_cfg : (issueNext s).cfg = s.cfg := by simp [issueNext]
@[simp] theorem issueNext_cfgs : (issueNext s).cfgs = s.cfgs := by simp [issueNext]
@[simp] theorem issueNext_base : (issueNext s).base = s.base := by simp [issueNext]
@[simp] theorem issueNext_len : (issueNext s).len = s.len := by simp [issueNext]
@[simp] theorem issueNext_ilen : (issueNext s).ilen = s.ilen := by simp [issueNext]
@[simp] theorem issueNext_off : (issueNext s).off = s.off := by simp [issueNext]
@[simp] theorem issueNext_rem : (issueNext s).rem = s.rem := by simp [issueNext]
@[simp] theorem issueNext_obuf : (issueNext s).obuf = s.obuf := by simp [issueNext]
@[simp] theorem issueNext_ibuf : (issueNext s).ibuf = s.ibuf := by simp [issueNext]
@[simp] theorem issueNext_reads : (issueNext s).reads = s.reads := by simp [issueNext]
@[simp] theorem issueNext_inputs : (issueNext s).inputs = s.inputs := by simp [issueNext]
@[simp] theorem issueNext_drawn : (issueNext s).drawn = s.drawn := by simp [issueNext]
end

@[simp] theorem issueNext_seq (s : State) : (issueNext s).seq = { s.seq with phase := .attempt } := by simp [issueNext]

@[simp] theorem issueNext_retry (s : State) : (issueNext s).retry = s.cfgs.maxRetries := by simp [issueNext]

@[simp] theorem issueNext_call (s : State) : (issueNext s).scratch.call = callOf s := by simp [issueNext]

section
variable (s : State)
@[simp] theorem continueLoop_params : (continueLoop s).params = s.params := by unfold continueLoop; split <;> simp
@[simp] theorem continueLoop_crc : (continueLoop s).crc = s.crc := by unfold continueLoop; split <;> simp
@[simp] theorem continueLoop_z : (continueLoop s).z = s.z := by unfold continueLoop; split <;> simp
@[simp] theorem continueLoop_cause : (continueLoop s).cause = s.cause := by unfold continueLoop; split <;> simp
@[simp] theorem continueLoop_cfg : (continueLoop s).cfg = s.cfg := by unfold continueLoop; split <;> simp
@[simp] theorem continueLoop_cfgs : (continueLoop s).cfgs = s.cfgs := by unfold continueLoop; split <;> simp
@[simp] theorem continueLoop_base : (continueLoop s).base = s.base := by unfold continueLoop; split <;> simp
@[simp] theorem continueLoop_len : (continueLoop s).len = s.len := by unfold continueLoop; split <;> simp
@[simp] theorem continueLoop_ilen : (continueLoop s).ilen = s.ilen := by unfold continueLoop; split <;> simp
@[simp] theorem continueLoop_off : (continueLoop s).off = s.off := by unfold continueLoop; split <;> simp
@[simp] theorem continueLoop_rem : (continueLoop s).rem = s.rem := by unfold continueLoop; split <;> simp
@[simp] theorem continueLoop_retry : (continueLoop s).retry = s.retry := by unfold continueLoop; split <;> simp
@[simp] theorem continueLoop_obuf : (continueLoop s).obuf = s.obuf := by unfold continueLoop; split <;> simp
@[simp] theorem continueLoop_ibuf : (continueLoop s).ibuf = s.ibuf := by unfold continueLoop; split <;> simp
@[simp] theorem continueLoop_trace : (continueLoop s).trace = s.trace := by unfold continueLoop; split <;> simp
@[simp] theorem continueLoop_reads : (continueLoop s).reads = s.reads := by unfold continueLoop; split <;> simp
@[simp] theorem continueLoop_inputs : (continueLoop s).inputs = s.inputs := by unfold continueLoop; split <;> simp
@[simp] theorem continueLoop_drawn : (continueLoop s).drawn = s.drawn := by unfold continueLoop; split <;> simp
end

section
variable (data : List Byte) (s : State)
@[simp] theorem storeChunk_params : (storeChunk data s).params = s.params := by simp [storeChunk]
@[simp] theorem storeChunk_crc : (storeChunk data s).crc = s.crc := by simp [storeChunk]
@[simp] theorem storeChunk_z : (storeChunk data s).z = s.z := by simp [storeChunk]
@[simp] theorem storeChunk_status : (storeChunk data s).status = s.status := by simp [storeChunk]
@[simp] theorem storeChunk_cause : (storeChunk data s).cause = s.cause := by simp [storeChunk]
@[simp] theorem storeChunk_cfg : (storeChunk data s).cfg = s.cfg := by simp [storeChunk]
@[simp] theorem storeChunk_cfgs : (storeChunk data s).cfgs = s.cfgs := by simp [storeChunk]
@[simp] theorem storeChunk_base : (storeChunk data s).base = s.base := by simp [storeChunk]
@[simp] theorem storeChunk_len : (storeChunk data s).len = s.len := by simp [storeChunk]
@[simp] theorem storeChunk_ilen : (storeChunk data s).ilen = s.ilen := by simp [storeChunk]
@[simp] theorem storeChunk_retry : (storeChunk data s).retry = s.retry := by simp [storeChunk]
@[simp] theorem storeChunk_seq : (storeChunk data s).seq = s.seq := by simp [storeChunk]
@[simp] theorem storeChunk_scratch : (storeChunk data s).scratch = s.scratch := by simp [storeChunk]
@[simp] theorem storeChunk_obuf : (storeChunk data s).obuf = s.obuf := by simp [storeChunk]
@[simp] theorem storeChunk_trace : (storeChunk data s).trace = s.trace := by simp [storeChunk]
@[simp] theorem storeChunk_reads : (storeChunk data s).reads = s.reads := by simp [storeChunk]
@[simp] theorem storeChunk_inputs : (storeChunk data s).inputs = s.inputs := by simp [storeChunk]
@[simp] theorem storeChunk_drawn : (storeChunk data s).drawn = s.drawn := by simp [storeChunk]
end

section
variable (data : List Byte) (s : State)
@[simp] theorem afterSuccess_params : (afterSuccess data s).params = s.params := by unfold afterSuccess; (repeat' split) <;> simp
@[simp] theorem afterSuccess_crc : (afterSuccess data s).crc = s.crc := by unfold afterSuccess; (repeat' split) <;> simp
@[simp] theorem afterSuccess_z : (afterSuccess data s).z = s.z := by unfold afterSuccess; (repeat' split) <;> simp
@[simp] theorem afterSuccess_cause : (afterSuccess data s).cause = s.cause := by unfold afterSuccess; (repeat' split) <;> simp
@[simp] theorem afterSuccess_cfg : (afterSuccess data s).cfg = s.cfg := by unfold afterSuccess; (repeat' split) <;> simp
@[simp] theorem afterSuccess_cfgs : (afterSuccess data s).cfgs = s.cfgs := by unfold afterSuccess; (repeat' split) <;> simp
@[simp] theorem afterSuccess_base : (afterSuccess data s).base = s.base := by unfold afterSuccess; (repeat' split) <;> simp
@[simp] theorem afterSuccess_len : (afterSuccess data s).len = s.len := by unfold afterSuccess; (repeat' split) <;> simp
@[simp] theorem afterSuccess_ilen : (afterSuccess data s).ilen = s.ilen := by unfold afterSuccess; (repeat' split) <;> simp
@[simp] theorem afterSuccess_retry : (afterSuccess data s).retry = s.retry := by unfold afterSuccess; (repeat' split) <;> simp
@[simp] theorem afterSuccess_obuf : (afterSuccess data s).obuf = s.obuf := by unfold afterSuccess; (repeat' split) <;> simp
@[simp] theorem afterSuccess_trace : (afterSuccess data s).trace = s.trace := by unfold afterSuccess; (repeat' split) <;> simp
@[simp] theorem afterSuccess_reads : (afterSuccess data s).reads = s.reads := by unfold afterSuccess; (repeat' split) <;> simp
@[simp] theorem afterSuccess_inputs : (afterSuccess data s).inputs = s.inputs := by unfold afterSuccess; (repeat' split) <;> simp
@[simp] theorem afterSuccess_drawn : (afterSuccess data s).drawn = s.drawn := by unfold afterSuccess; (repeat' split) <;> simp
end

section
variable (o : BusOutcome) (s : State)
@[simp] theorem completeAttempt_params : (completeAttempt o s).params = s.params := by rcases completeAttempt_cases o s with ⟨_, h⟩ | ⟨f, _, h⟩ <;> simp [h]
@[simp] theorem completeAttempt_cfg : (completeAttempt o s).cfg = s.cfg := by rcases completeAttempt_cases o s with ⟨_, h⟩ | ⟨f, _, h⟩ <;> simp [h]
@[simp] theorem completeAttempt_cfgs : (completeAttempt o s).cfgs = s.cfgs := by rcases completeAttempt_cases o s with ⟨_, h⟩ | ⟨f, _, h⟩ <;> simp [h]
@[simp] theorem completeAttempt_base : (completeAttempt o s).base = s.base := by rcases completeAttempt_cases o s with ⟨_, h⟩ | ⟨f, _, h⟩ <;> simp [h]
@[simp] theorem completeAttempt_len : (completeAttempt o s).len = s.len := by rcases completeAttempt_cases o s with ⟨_, h⟩ | ⟨f, _, h⟩ <;> simp [h]
@[simp] theorem completeAttempt_ilen : (completeAttempt o s).ilen = s.ilen := by rcases completeAttempt_cases o s with ⟨_, h⟩ | ⟨f, _, h⟩ <;> simp [h]
@[simp] theorem completeAttempt_obuf : (completeAttempt o s).obuf = s.obuf := by rcases completeAttempt_cases o s with ⟨_, h⟩ | ⟨f, _, h⟩ <;> simp [h]
@[simp] theorem completeAttempt_reads : (completeAttempt o s).reads = s.reads := by rcases completeAttempt_cases o s with ⟨_, h⟩ | ⟨f, _, h⟩ <;> simp [h]
@[simp] theorem completeAttempt_inputs : (completeAttempt o s).inputs = s.inputs := by rcases completeAttempt_cases o s with ⟨_, h⟩ | ⟨f, _, h⟩ <;> simp [h]
@[simp] theorem completeAttempt_drawn : (completeAttempt o s).drawn = s.drawn := by rcases completeAttempt_cases o s with ⟨_, h⟩ | ⟨f, _, h⟩ <;> simp [h]
end

section
variable (s : State)
@[simp] theorem completeBackoff_params : (completeBackoff s).params = s.params := by simp [completeBackoff]
@[simp] theorem completeBackoff_z : (completeBackoff s).z = s.z := by simp [completeBackoff]
@[simp] theorem completeBackoff_status : (completeBackoff s).status = s.status := by simp [completeBackoff]
@[simp] theorem completeBackoff_cause : (completeBackoff s).cause = s.cause := by simp [completeBackoff]
@[simp] theorem completeBackoff_cfg : (completeBackoff s).cfg = s.cfg := by simp [completeBackoff]
@[simp] theorem completeBackoff_cfgs : (completeBackoff s).cfgs = s.cfgs := by simp [completeBackoff]
@[simp] theorem completeBackoff_base : (completeBackoff s).base = s.base := by simp [completeBackoff]
@[simp] theorem completeBackoff_len : (completeBackoff s).len = s.len := by simp [completeBackoff]
@[simp] theorem completeBackoff_ilen : (completeBackoff s).ilen = s.ilen := by simp [completeBackoff]
@[simp] theorem completeBackoff_off : (completeBackoff s).off = s.off := by simp [completeBackoff]
@[simp] theorem completeBackoff_rem : (completeBackoff s).rem = s.rem := by simp [completeBackoff]
@[simp] theorem completeBackoff_retry : (completeBackoff s).retry = s.retry := by simp [completeBackoff]
@[simp] theorem completeBackoff_obuf : (completeBackoff s).obuf = s.obuf := by simp [completeBackoff]
@[simp] theorem completeBackoff_ibuf : (completeBackoff s).ibuf = s.ibuf := by simp [completeBackoff]
@[simp] theorem completeBackoff_reads : (completeBackoff s).reads = s.reads := by simp [completeBackoff]
@[simp] theorem completeBackoff_inputs : (completeBackoff s).inputs = s.inputs := by simp [completeBackoff]
@[simp] theorem completeBackoff_drawn : (completeBackoff s).drawn = s.drawn := by simp [completeBackoff]
end

section
variable (s : State)
@[simp] theorem startRawWrite_params : (startRawWrite s).params = s.params := by unfold startRawWrite; dsimp only; split <;> simp
@[simp] theorem startRawWrite_crc : (startRawWrite s).crc = s.crc := by unfold startRawWrite; dsimp only; split <;> simp
@[simp] theorem startRawWrite_z : (startRawWrite s).z = s.z := by unfold startRawWrite; dsimp only; split <;> simp
@[simp] theorem startRawWrite_cause : (startRawWrite s).cause = s.cause := by unfold startRawWrite; dsimp only; split <;> simp [Raised.causeAfter]
@[simp] theorem startRawWrite_cfg : (startRawWrite s).cfg = s.cfg := by unfold startRawWrite; dsimp only; split <;> simp
@[simp] theorem startRawWrite_base : (startRawWrite s).base = s.base := by unfold startRawWrite; dsimp only; split <;> simp
@[simp] theorem startRawWrite_len : (startRawWrite s).len = s.len := by unfold startRawWrite; dsimp only; split <;> simp
@[simp] theorem startRawWrite_ilen : (startRawWrite s).ilen = s.ilen := by unfold startRawWrite; dsimp only; split <;> simp
@[simp] theorem startRawWrite_off : (startRawWrite s).off = s.off := by unfold startRawWrite; dsimp only; split <;> simp
@[simp] theorem startRawWrite_rem : (startRawWrite s).rem = s.rem := by unfold startRawWrite; dsimp only; split <;> simp
@[simp] theorem startRawWrite_retry : (startRawWrite s).retry = s.retry := by unfold startRawWrite; dsimp only; split <;> simp
@[simp] theorem startRawWrite_obuf : (startRawWrite s).obuf = s.obuf := by unfold startRawWrite; dsimp only; split <;> simp
@[simp] theorem startRawWrite_ibuf : (startRawWrite s).ibuf = s.ibuf := by unfold startRawWrite; dsimp only; split <;> simp
@[simp] theorem startRawWrite_trace : (startRawWrite s).trace = s.trace := by unfold startRawWrite; dsimp only; split <;> simp
@[simp] theorem startRawWrite_reads : (startRawWrite s).reads = s.reads := by unfold startRawWrite; dsimp only; split <;> simp
@[simp] theorem startRawWrite_inputs : (startRawWrite s).inputs = s.inputs := by unfold startRawWrite; dsimp only; split <;> simp
@[simp] theorem startRawWrite_drawn : (startRawWrite s).drawn = s.drawn := by unfold startRawWrite; dsimp only; split <;> simp
end

section
variable (s : State)
@[simp] theorem startRawRead_params : (startRawRead s).params = s.params := by unfold startRawRead; dsimp only; split <;> simp
@[simp] theorem startRawRead_crc : (startRawRead s).crc = s.crc := by unfold startRawRead; dsimp only; split <;> simp
@[simp] theorem startRawRead_z : (startRawRead s).z = s.z := by unfold startRawRead; dsimp only; split <;> simp
@[simp] theorem startRawRead_cause : (startRawRead s).cause = s.cause := by unfold startRawRead; dsimp only; split <;> simp [Raised.causeAfter]
@[simp] theorem startRawRead_cfg : (startRawRead s).cfg = s.cfg := by unfold startRawRead; dsimp only; split <;> simp
@[simp] theorem startRawRead_base : (startRawRead s).base = s.base := by unfold startRawRead; dsimp only; split <;> simp
@[simp] theorem startRawRead_len : (startRawRead s).len = s.len := by unfold startRawRead; dsimp only; split <;> simp
@[simp] theorem startRawRead_ilen : (startRawRead s).ilen = s.ilen := by unfold startRawRead; dsimp only; split <;> simp
@[simp] theorem startRawRead_off : (startRawRead s).off = s.off := by unfold startRawRead; dsimp only; split <;> simp
@[simp] theorem startRawRead_rem : (startRawRead s).rem = s.rem := by unfold startRawRead; dsimp only; split <;> simp
@[simp] theorem startRawRead_retry : (startRawRead s).retry = s.retry := by unfold startRawRead; dsimp only; split <;> simp
@[simp] theorem startRawRead_obuf : (startRawRead s).obuf = s.obuf := by unfold startRawRead; dsimp only; split <;> simp
@[simp] theorem startRawRead_ibuf : (startRawRead s).ibuf = s.ibuf := by unfold startRawRead; dsimp only; split <;> simp
@[simp] theorem startRawRead_trace : (startRawRead s).trace = s.trace := by unfold startRawRead; dsimp only; split <;> simp
@[simp] theorem startRawRead_reads : (startRawRead s).reads = s.reads := by unfold startRawRead; dsimp only; split <;> simp
@[simp] theorem startRawRead_inputs : (startRawRead s).inputs = s.inputs := by unfold startRawRead; dsimp only; split <;> simp
@[simp] theorem startRawRead_drawn : (startRawRead s).drawn = s.drawn := by unfold startRawRead; dsimp only; split <;> simp
end

section
variable (s : State)
@[simp] theorem startChunkedWrite_params : (startChunkedWrite s).params = s.params := by simp [startChunkedWrite]
@[simp] theorem startChunkedWrite_crc : (startChunkedWrite s).crc = s.crc := by simp [startChunkedWrite]
@[simp] theorem startChunkedWrite_z : (startChunkedWrite s).z = s.z := by simp [startChunkedWrite]
@[simp] theorem startChunkedWrite_cause : (startChunkedWrite s).cause = s.cause := by simp [startChunkedWrite]
@[simp] theorem startChunkedWrite_cfg : (startChunkedWrite s).cfg = s.cfg := by simp [startChunkedWrite]
@[simp] theorem startChunkedWrite_base : (startChunkedWrite s).base = s.base := by simp [startChunkedWrite]
@[simp] theorem startChunkedWrite_len : (startChunkedWrite s).len = s.len := by simp [startChunkedWrite]
@[simp] theorem startChunkedWrite_ilen : (startChunkedWrite s).ilen = s.ilen := by simp [startChunkedWrite]
@[simp] theorem startChunkedWrite_retry : (startChunkedWrite s).retry = s.retry := by simp [startChunkedWrite]
@[simp] theorem startChunkedWrite_obuf : (startChunkedWrite s).obuf = s.obuf := by simp [startChunkedWrite]
@[simp] theorem startChunkedWrite_ibuf : (startChunkedWrite s).ibuf = s.ibuf := by simp [startChunkedWrite]
@[simp] theorem startChunkedWrite_trace : (startChunkedWrite s).trace = s.trace := by simp [startChunkedWrite]
@[simp] theorem startChunkedWrite_reads : (startChunkedWrite s).reads = s.reads := by simp [startChunkedWrite]
@[simp] theorem startChunkedWrite_inputs : (startChunkedWrite s).inputs = s.inputs := by simp [startChunkedWrite]
@[simp] theorem startChunkedWrite_drawn : (startChunkedWrite s).drawn = s.drawn := by simp [startChunkedWrite]
end

section
variable (s : State)
@[simp] theorem startChunkedRead_params : (startChunkedRead s).params = s.params := by unfold startChunkedRead; dsimp only; split <;> simp
@[simp] theorem startChunkedRead_crc : (startChunkedRead s).crc = s.crc := by unfold startChunkedRead; dsimp only; split <;> simp
@[simp] theorem startChunkedRead_z : (startChunkedRead s).z = s.z := by unfold startChunkedRead; dsimp only; split <;> simp
@[simp] theorem startChunkedRead_cause : (startChunkedRead s).cause = s.cause := by unfold startChunkedRead; dsimp only; split <;> simp
@[simp] theorem startChunkedRead_cfg : (startChunkedRead s).cfg = s.cfg := by unfold startChunkedRead; dsimp only; split <;> simp
@[simp] theorem startChunkedRead_base : (startChunkedRead s).base = s.base := by unfold startChunkedRead; dsimp only; split <;> simp
@[simp] theorem startChunkedRead_len : (startChunkedRead s).len = s.len := by unfold startChunkedRead; dsimp only; split <;> simp
@[simp] theorem startChunkedRead_ilen : (startChunkedRead s).ilen = s.ilen := by unfold startChunkedRead; dsimp only; split <;> simp
@[simp] theorem startChunkedRead_retry : (startChunkedRead s).retry = s.retry := by unfold startChunkedRead; dsimp only; split <;> simp
@[simp] theorem startChunkedRead_obuf : (startChunkedRead s).obuf = s.obuf := by unfold startChunkedRead; dsimp only; split <;> simp
@[simp] theorem startChunkedRead_ibuf : (startChunkedRead s).ibuf = s.ibuf := by unfold startChunkedRead; dsimp only; split <;> simp
@[simp] theorem startChunkedRead_trace : (startChunkedRead s).trace = s.trace := by unfold startChunkedRead; dsimp only; split <;> simp
@[simp] theorem startChunkedRead_reads : (startChunkedRead s).reads = s.reads := by unfold startChunkedRead; dsimp only; split <;> simp
@[simp] theorem startChunkedRead_inputs : (startChunkedRead s).inputs = s.inputs := by unfold startChunkedRead; dsimp only; split <;> simp
@[simp] theorem startChunkedRead_drawn : (startChunkedRead s).drawn = s.drawn := by unfold startChunkedRead; dsimp only; split <;> simp
end

section
variable (i : Instr) (s : State)
@[simp] theorem effectOf_params : (effectOf i s).params = s.params := by (cases i <;> simp [effectOf]); (repeat' split) <;> simp
@[simp] theorem effectOf_cause : (effectOf i s).cause = s.cause := by (cases i <;> simp [effectOf]); (repeat' split) <;> simp
@[simp] theorem effectOf_obuf : (effectOf i s).obuf = s.obuf := by (cases i <;> simp [effectOf]); (repeat' split) <;> simp
@[simp] theorem effectOf_ibuf : (effectOf i s).ibuf = s.ibuf := by (cases i <;> simp [effectOf]); (repeat' split) <;> simp
@[simp] theorem effectOf_reads : (effectOf i s).reads = s.reads := by (cases i <;> simp [effectOf]); (repeat' split) <;> simp
@[simp] theorem effectOf_drawn : (effectOf i s).drawn = s.drawn := by (cases i <;> simp [effectOf]); (repeat' split) <;> simp
end

end Sys2Proof.Machine
end

