-- ==== Sys2Proof/Laws/Issue.lean ====
section
/-! SUPPORT. The model's frames, first attempts and failed attempts, in the vocabulary of the statements: what s1 issues is what
they name, and an attempt fails on exactly the answers they name. -/

namespace Sys2Proof.Machine

open Sys2Proof.Claims

/-- A write transaction's first attempt. -/
theorem beginTransaction_write (s : State) (out : List Byte) :
    beginTransaction { kind := .w, out := out, nin := 0 } s = writeIssued s out := by
  simp [beginTransaction, issueAttempt, emit, buildFrame, buildCrc, writeIssued, wireFrame, coverW]

/-- A write-then-read transaction's first attempt. -/
theorem beginTransaction_read (s : State) (out : List Byte) (nin : Nat) :
    beginTransaction { kind := .wr, out := out, nin := nin } s = readIssued s out nin := by
  simp [beginTransaction, issueAttempt, emit, readIssued, requestedBytes, checksRead, Config.pecInit]

/-- The chunk at OFF = 32 j is chunk j of the transfer, while OFF + REM = LEN. -/
theorem chunkFrame_eq_chunkPayload (s t : State) (j : Nat) (hp : t.params = s.params) (hb : t.base = s.base)
    (ho : t.obuf = s.obuf) (hoff : t.off.toNat = 32 * j) (hsum : t.off.toNat + t.rem.toNat = s.len.toNat) :
    chunkFrame t = chunkPayload s j := by
  have h1 : t.off = BitVec.ofNat 16 (32 * j) := by rw [← hoff]; simp
  have h2 : chunkSize t = chunkLength s j := by simp only [chunkSize, chunkLength, Config.chunkMax]; congr 1; omega
  have hm := memRead_congr s t .obuf t.off (chunkSize t) ho
  simp only [chunkFrame, chunkPayload, macFrame, memRead_length]
  rw [hm]
  simp only [h2, h1, chunkAddress, hp, hb, addressBytes, lo8, hi8, Config.addrBytes]

theorem selectFrame_eq_selectPayload (s t : State) (hp : t.params = s.params) (hb : t.base = s.base) :
    selectFrame t = selectPayload s := by
  simp [selectFrame, selectPayload, macFrame, Config.addrBytes, addressBytes, lo8, hi8, hp, hb]

/-- ENGINE's turn, when it has one. -/
theorem step_engine (s : State) (rest : List Input) (h : engineReady s = true) :
    step { s with inputs := .engine :: rest } = .next (issueNext { s with inputs := rest }) := by
  simp only [step, perform, engineIssues]
  rw [if_pos (show engineReady { s with inputs := rest } = true from h)]

/-- What s1 issues does not depend on the schedule. -/
theorem issueNext_withInputs (s : State) (l : List Input) :
    issueNext { s with inputs := l } = { issueNext s with inputs := l } := by
  have hc : callOf { s with inputs := l } = callOf s := callOf_congr rfl rfl rfl rfl rfl rfl rfl rfl rfl
  unfold issueNext
  rw [hc]
  cases hk : (callOf s).kind <;> simp [beginTransaction, issueAttempt, hk, emit, buildFrame, buildCrc, requestedBytes]

/-! ### Which answers fail -/

/-- `CheckR` is R141's check of the in-frame's last byte, on an answer of the requested length. -/
theorem matchFlag_readCrc_iff {s : State} {data : List Byte} (hc : checksRead s = true)
    (hl : data.length = requestedBytes s) :
    matchFlag (readCrc s data) (trailingByte s data) = true ↔ Verifies s data := by
  rw [checksRead_iff] at hc
  have hn : data.length = s.scratch.call.nin + 1 := by simpa [requestedBytes, hc] using hl
  obtain ⟨init, last, rfl⟩ : ∃ init last, data = init ++ [last] :=
    ⟨_, _, (List.dropLast_append_getLast (by rintro rfl; simp at hn)).symm⟩
  have hi : s.scratch.call.nin = init.length := by simpa using hn.symm
  simp only [matchFlag_iff, readCrc, trailingByte, Verifies, coverWR, hi]
  simp
  exact eq_comm

/-- The answers that fail an attempt are those R115 and R142 name. -/
theorem failingAnswer_iff (s : State) (o : BusOutcome) : FailingAnswer s o ↔ AnswerOk s o ∧ failureOf s o ≠ none := by
  refine and_congr_right fun h => ?_
  cases o with
  | busError c => simp [failureOf]
  | timeout => simp [failureOf]
  | ok data =>
    by_cases hc : checksRead s = true
    · have hv := matchFlag_readCrc_iff hc (h.2.1 data rfl)
      simp [failureOf, hc, ← hv, (checksRead_iff s).mp hc]
    · simp only [failureOf, hc]
      simpa using fun h1 h2 => absurd ((checksRead_iff s).mpr ⟨h1, h2⟩) hc

/-- The answers that let an attempt succeed are those R114 and R141 name. -/
theorem passingAnswer_iff (s : State) (o : BusOutcome) : PassingAnswer s o ↔ AnswerOk s o ∧ failureOf s o = none := by
  refine and_congr_right fun h => ?_
  cases o with
  | busError c => simp [failureOf]
  | timeout => simp [failureOf]
  | ok data =>
    by_cases hc : checksRead s = true
    · have hv := matchFlag_readCrc_iff hc (h.2.1 data rfl)
      simp [failureOf, hc, ← hv, (checksRead_iff s).mp hc]
    · simp only [failureOf, hc]
      simpa using fun h1 h2 => absurd ((checksRead_iff s).mpr ⟨h1, h2⟩) hc
end Sys2Proof.Machine
end

