-- ==== Sys2Proof/Laws/Packing.lean ====
section
/-! SUPPORT. Taking packed words apart: the fields of a command word (R60, R61) and of the register views (R13). -/

namespace Sys2Proof

theorem wordOf_getLsbD (f : Fields) (i : Nat) :
    (wordOf f).getLsbD i =
      if i < 16 then f.imm.getLsbD i else if i - 16 < 8 then f.rsv.getLsbD (i - 16) else f.op.getLsbD (i - 16 - 8) :=
  (BitVec.getLsbD_append (x := f.op ++ f.rsv) (y := f.imm) (i := i)).trans
    (if_congr Iff.rfl rfl (BitVec.getLsbD_append (x := f.op) (y := f.rsv) (i := i - 16)))

/-- A word's fields put together give the word. -/
@[simp] theorem wordOf_fieldsOf (w : Word) : wordOf (fieldsOf w) = w := by
  apply BitVec.eq_of_getLsbD_eq
  intro i hi
  rw [wordOf_getLsbD]
  simp only [fieldsOf, BitVec.getLsbD_extractLsb']
  split
  · simp [*]
  · split
    · rw [decide_eq_true ‹_›, Bool.true_and]; congr 1; omega
    · rw [decide_eq_true (by omega), Bool.true_and]; congr 1; omega

/-- Fields put together come apart again. -/
@[simp] theorem fieldsOf_wordOf (f : Fields) : fieldsOf (wordOf f) = f := by
  obtain ⟨op, rsv, imm⟩ := f
  simp only [fieldsOf, Fields.mk.injEq]
  refine ⟨?_, ?_, ?_⟩ <;> apply BitVec.eq_of_getLsbD_eq <;> intro i hi <;>
    rw [BitVec.getLsbD_extractLsb', wordOf_getLsbD, decide_eq_true hi, Bool.true_and]
  · rw [if_neg (by omega), if_neg (by omega)]; congr 1; omega
  · rw [if_neg (by omega), if_pos (by omega)]; congr 1; omega
  · rw [if_pos (by omega)]; congr 1; omega

/-- The fields of a word are those of this record iff the word is theirs. -/
theorem fieldsOf_eq_iff (w : Word) (f : Fields) : fieldsOf w = f ↔ w = wordOf f :=
  ⟨fun h => by rw [← h, wordOf_fieldsOf], fun h => by rw [h, fieldsOf_wordOf]⟩

/-- Masking a word masks its fields. -/
theorem wordOf_and (f g : Fields) :
    wordOf f &&& wordOf g = wordOf { op := f.op &&& g.op, rsv := f.rsv &&& g.rsv, imm := f.imm &&& g.imm } := by
  apply BitVec.eq_of_getLsbD_eq
  intro i _
  simp only [BitVec.getLsbD_and, wordOf_getLsbD]
  split
  · rfl
  · split <;> rfl

theorem wordOf_injective : Function.Injective wordOf := fun f g h => by
  rw [← fieldsOf_wordOf f, h, fieldsOf_wordOf]

@[simp] theorem imm8Of_immOf8 (b : Byte) : imm8Of (immOf8 b) = b := by
  apply BitVec.eq_of_getLsbD_eq
  intro i hi
  have h := BitVec.getLsbD_append (x := 0#8) (y := b) (i := i)
  rw [if_pos hi] at h
  rw [imm8Of, BitVec.getLsbD_extractLsb', decide_eq_true hi, Bool.true_and, Nat.zero_add]
  exact h

@[simp] theorem immOf8_unused (b : Byte) : immOf8 b &&& 0xFF00#16 = 0#16 := by
  revert b; decide

@[simp] theorem immOf2_r (r w : Bool) : (immOf2 r w)[0] = r := by
  cases r <;> cases w <;> rfl

@[simp] theorem immOf2_w (r w : Bool) : (immOf2 r w)[1] = w := by
  cases r <;> cases w <;> rfl

@[simp] theorem immOf2_unused (r w : Bool) : immOf2 r w &&& 0xFFFC#16 = 0#16 := by
  cases r <;> cases w <;> rfl

/-- An IMM whose upper byte is zero is its low byte's. -/
theorem immOf8_imm8Of (imm : Half) (h : imm &&& 0xFF00#16 = 0#16) : immOf8 (imm8Of imm) = imm := by
  apply BitVec.eq_of_getLsbD_eq
  intro i hi
  have hb := congrArg (fun x => x.getLsbD i) h
  have ha := BitVec.getLsbD_append (x := 0#8) (y := imm8Of imm) (i := i)
  refine Eq.trans ha ?_
  have hm : ∀ i, i < 16 → 8 ≤ i → (0xFF00#16).getLsbD i = true := by decide
  split
  · simp [imm8Of, *]
  · simp only [BitVec.getLsbD_and, hm i hi (by omega), Bool.and_true] at hb
    rw [hb]; simp

/-- An IMM with only its two low bits set is theirs. -/
theorem immOf2_bits (imm : Half) (h : imm &&& 0xFFFC#16 = 0#16) :
    immOf2 (imm.getLsbD 0) (imm.getLsbD 1) = imm := by
  apply BitVec.eq_of_getLsbD_eq
  intro i hi
  have hb := congrArg (fun x => x.getLsbD i) h
  have ha : ∀ r w : Bool, ∀ i, i < 16 →
      (immOf2 r w).getLsbD i = if i < 1 then r else if i < 2 then w else false := by decide
  have hm : ∀ i, i < 16 → 2 ≤ i → (0xFFFC#16).getLsbD i = true := by decide
  rw [ha _ _ i hi]
  split
  · congr 1; omega
  · split
    · congr 1; omega
    · simp only [BitVec.getLsbD_and, hm i hi (by omega), Bool.and_true] at hb
      rw [hb]; simp

namespace Machine

theorem packCfg_getLsbD (c : CfgRecord) (i : Nat) :
    (packCfg c).getLsbD i =
      if i < 8 then c.maxRetries.getLsbD i
      else if i - 8 < 1 then (BitVec.ofBool c.pecOnRead).getLsbD (i - 8)
      else if i - 8 - 1 < 1 then (BitVec.ofBool c.pecOnWrite).getLsbD (i - 8 - 1)
      else if i - 8 - 1 - 1 < 6 then (0#6).getLsbD (i - 8 - 1 - 1) else c.timeoutMs.getLsbD (i - 8 - 1 - 1 - 6) :=
  (BitVec.getLsbD_append (x := c.timeoutMs ++ 0#6 ++ BitVec.ofBool c.pecOnWrite ++ BitVec.ofBool c.pecOnRead)
      (y := c.maxRetries) (i := i)).trans
    (if_congr Iff.rfl rfl
      ((BitVec.getLsbD_append (x := c.timeoutMs ++ 0#6 ++ BitVec.ofBool c.pecOnWrite)
          (y := BitVec.ofBool c.pecOnRead) (i := i - 8)).trans
        (if_congr Iff.rfl rfl
          ((BitVec.getLsbD_append (x := c.timeoutMs ++ 0#6) (y := BitVec.ofBool c.pecOnWrite) (i := i - 8 - 1)).trans
            (if_congr Iff.rfl rfl (BitVec.getLsbD_append (x := c.timeoutMs) (y := 0#6) (i := i - 8 - 1 - 1)))))))

end Machine

end Sys2Proof
end

