-- ==== Sys2Proof/Laws/PerInstr.lean ====
section
/-! SUPPORT. Statements about an operation as syntax, one lemma per constructor. -/

namespace Sys2Proof.Laws.EncodesItsRow

open Sys2Proof.Claims

/-- The operation's command word is well-formed (R60, R61) and its row of R62 selects it. -/
def Statement (i : Instr) : Prop := i.fields.wellFormed = true ∧ (rowOf i).selects (encode i) = true

/-- A row whose mask covers OP and RSV selects every word with its OP and a zero RSV. -/
theorem selects_wide (op : Byte) (imm : Half) :
    (⟨wordOf ⟨op, 0#8, 0#16⟩, wordOf ⟨0xFF#8, 0xFF#8, 0#16⟩⟩ : Row).selects (wordOf ⟨op, 0#8, imm⟩) = true := by
  have h : op &&& 0xFF#8 = op := BitVec.and_allOnes
  simp [Row.selects, wordOf_and, h]

/-- A 16-bit operand leaves no bit that must be zero. -/
theorem wellFormed_wide (op : Byte) (imm : Half) (h : formatOf op = some .i16) :
    (⟨op, 0#8, imm⟩ : Fields).wellFormed = true := by
  simp [Fields.wellFormed, Fields.opDefined, Fields.rsvZero, Fields.unusedZero, h, Format.mustBeZero]

theorem cfgRetry (imm8 : Byte) : Statement (.cfgRetry imm8) := by unfold Statement; revert imm8; decide

theorem cfgPec (r w : Bool) : Statement (.cfgPec r w) := by unfold Statement; revert r w; decide

theorem cfgTmo (imm16 : Half) : Statement (.cfgTmo imm16) :=
  ⟨wellFormed_wide 0x03#8 imm16 rfl, selects_wide 0x03#8 imm16⟩

theorem setBase (imm16 : Half) : Statement (.setBase imm16) :=
  ⟨wellFormed_wide 0x04#8 imm16 rfl, selects_wide 0x04#8 imm16⟩

theorem setLen (imm16 : Half) : Statement (.setLen imm16) :=
  ⟨wellFormed_wide 0x05#8 imm16 rfl, selects_wide 0x05#8 imm16⟩

theorem setIlen (imm16 : Half) : Statement (.setIlen imm16) :=
  ⟨wellFormed_wide 0x06#8 imm16 rfl, selects_wide 0x06#8 imm16⟩

theorem pecClr : Statement .pecClr := ⟨by decide, by decide⟩

theorem pecUpd (imm8 : Byte) : Statement (.pecUpd imm8) := by unfold Statement; revert imm8; decide

theorem pecAdw : Statement .pecAdw := ⟨by decide, by decide⟩

theorem pecAdr : Statement .pecAdr := ⟨by decide, by decide⟩

theorem pecChk (imm8 : Byte) : Statement (.pecChk imm8) := by unfold Statement; revert imm8; decide

theorem xfW : Statement .xfW := ⟨by decide, by decide⟩

theorem xfWr : Statement .xfWr := ⟨by decide, by decide⟩

theorem dfWr : Statement .dfWr := ⟨by decide, by decide⟩

theorem dfRd : Statement .dfRd := ⟨by decide, by decide⟩

theorem abort : Statement .abort := ⟨by decide, by decide⟩

end Sys2Proof.Laws.EncodesItsRow
end

