-- ==== Sys2Proof/Tests/Slice0.lean ====
section
/-! SUPPORT. Tests. Expected values come from R60 to R69 (the words), from the vectors of 95_test_vectors.md (V...) and from the
rules named; each is about one decode, one check or one step. Last, a witness for the hypotheses of every statement. -/

namespace Sys2Proof.Tests

open Sys2Proof Sys2Proof.Machine Sys2Proof.Claims

/-! ### WellFormed refuses -/

/-- OP 0x00, 0x07 and 0xFF are not in the table (R62, V2.4-17). -/
theorem test_unknown_op_is_ill_formed :
    (⟨0x00#8, 0#8, 0#16⟩ : Fields).opDefined = false ∧ (⟨0x07#8, 0#8, 0#16⟩ : Fields).wellFormed = false ∧
      (⟨0xFF#8, 0#8, 0#16⟩ : Fields).wellFormed = false := by decide

/-- RSV must be zero (R60, V2.4-17). -/
theorem test_nonzero_rsv_is_ill_formed :
    (⟨0x40#8, 0x01#8, 0#16⟩ : Fields).rsvZero = false ∧ (⟨0x40#8, 0x01#8, 0#16⟩ : Fields).wellFormed = false := by decide

/-- Formats N, I2 and I8 leave bits that must be zero; I16 leaves none (R61, V2.4-3, V2.4-17). -/
theorem test_unused_bits_are_ill_formed :
    (⟨0x10#8, 0#8, 0x0001#16⟩ : Fields).unusedZero = false ∧ (⟨0x02#8, 0#8, 0x0004#16⟩ : Fields).unusedZero = false ∧
      (⟨0x01#8, 0#8, 0x0100#16⟩ : Fields).unusedZero = false ∧ (⟨0x04#8, 0#8, 0xFFFF#16⟩ : Fields).wellFormed = true := by
  decide

/-! ### Decoding: one word a constructor, from R60 to R62 -/

theorem test_decode_config :
    decode 0x01000002#32 = .ok (.cfgRetry 2) ∧ decode 0x02000001#32 = .ok (.cfgPec true false) ∧
      decode 0x02000002#32 = .ok (.cfgPec false true) ∧ decode 0x03000032#32 = .ok (.cfgTmo 50) := by decide

theorem test_decode_operand :
    decode 0x04004000#32 = .ok (.setBase 0x4000) ∧ decode 0x05000030#32 = .ok (.setLen 48) ∧
      decode 0x06000002#32 = .ok (.setIlen 2) := by decide

theorem test_decode_accumulator :
    decode 0x10000000#32 = .ok .pecClr ∧ decode 0x11000044#32 = .ok (.pecUpd 0x44) ∧ decode 0x12000000#32 = .ok .pecAdw ∧
      decode 0x13000000#32 = .ok .pecAdr ∧ decode 0x140000AB#32 = .ok (.pecChk 0xAB) := by decide

theorem test_decode_transfer :
    decode 0x20000000#32 = .ok .xfW ∧ decode 0x21000000#32 = .ok .xfWr ∧ decode 0x30000000#32 = .ok .dfWr ∧
      decode 0x31000000#32 = .ok .dfRd ∧ decode 0x40000000#32 = .ok .abort := by decide

theorem test_decode_rejects_by_name :
    decode 0x40010000#32 = .error (.reservedField 1) ∧ decode 0x00000000#32 = .error (.unknownOp 0) ∧
      decode 0xFF000000#32 = .error (.unknownOp 0xFF) ∧ decode 0x10000001#32 = .error (.unusedOperandBits 1) := by decide

/-- The words as the opcode table numbers their bits, and the same words written by the encoder. -/
theorem test_table_words :
    decodeTableWord 32 0x14000092 = some (.pecChk 0x92) ∧ encode (.cfgPec true true) = 0x02000003#32 ∧
      encode (.setLen 0xFFFF) = 0x0500FFFF#32 ∧ decodeTableWord 32 0x01000100 = none := by decide

/-! ### One step -/

/-- The next state, for the tests. -/
def nextOf : Host.Outcome State Fault Refusal → State
  | .next t => t
  | .fault _ => State.reset
  | .refused _ => State.reset

/-- One step on a presented word. -/
def word (w : Word) (s : State) : State := nextOf (step (s.withFetchWord 32 w.toNat))

/-- One step on an answer of the bus port. -/
def answer (o : BusOutcome) (s : State) : State := nextOf (step { s with inputs := [.busAnswer o] })

/-- A presented operation accepted, and ENGINE's turn after it. -/
def started (w : Word) (s : State) : State := nextOf (step { word w s with inputs := [.engine] })

/-- A bus answer, and ENGINE's turn after it. -/
def answerIssue (o : BusOutcome) (s : State) : State := nextOf (step { answer o s with inputs := [.engine] })

/-- A budget of one retry, both PEC directions and a deadline. -/
def cfg1 : CfgRecord := { maxRetries := 1, pecOnRead := true, pecOnWrite := true, timeoutMs := 50 }

/-- The bytes from offset 0 on. -/
def bytes (vs : List Byte) : Memory := memWrite [] 0 vs

/-- V2.7-1: OBUF = 44 02 00 40, LEN = 4. -/
def idleWrite : State := { State.reset with cfg := cfg1, obuf := bytes [0x44, 0x02, 0x00, 0x40], len := 4 }

/-- V2.7-9: OBUF[0] = 0D, LEN = 1, ILEN = 2. -/
def idleRead : State := { State.reset with cfg := cfg1, obuf := bytes [0x0D], len := 1, ilen := 2 }

/-- V2.8-11: OBUF = DE AD BE EF, BASE = 0x4000, LEN = 4. -/
def idleChunk : State :=
  { State.reset with cfg := cfg1, obuf := bytes [0xDE, 0xAD, 0xBE, 0xEF], base := 0x4000, len := 4 }

theorem test_cfg_writes_x4 :
    readPort (word 0x01000002#32 State.reset) 4 = some 0x00000002#32 ∧
      readPort (word 0x02000003#32 State.reset) 4 = some 0x00000300#32 ∧
      readPort (word 0x03000032#32 State.reset) 4 = some 0x00320000#32 := by decide

theorem test_set_writes_its_register :
    (word 0x0400FFFF#32 State.reset).base = 0xFFFF ∧ (word 0x05000030#32 State.reset).len = 48 ∧
      (word 0x06000002#32 State.reset).ilen = 2 := by decide

/-- V2.5-2 to V2.5-6 and V2.5-11. -/
theorem test_pec_feeds_the_accumulator :
    (word 0x12000000#32 State.reset).crc = 0x62 ∧ (word 0x11000044#32 { State.reset with crc := 0x62 }).crc = 0xF2 ∧
      (word 0x13000000#32 { State.reset with crc := 0x0A }).crc = 0x53 ∧
      (word 0x10000000#32 { State.reset with crc := 0x53 }).crc = 0 := by decide

/-- V2.5-7 and V2.5-8. -/
theorem test_chk_compares :
    (word 0x140000AA#32 { State.reset with crc := 0xAB }).z = false ∧
      (word 0x140000AB#32 { State.reset with crc := 0xAB }).z = true := by decide

/-- V2.4-3 and V2.4-13: an undefined word, and ABORT clearing its report. -/
theorem test_undefined_word_and_abort :
    readPort (word 0x01000100#32 State.reset) 2 = some 0x13#32 ∧ (word 0x01000100#32 State.reset).cfg = State.reset.cfg ∧
      readPort (word 0x40000000#32 { State.reset with status := ⟨.err, .checksum⟩, off := 32 }) 2 = some 0#32 ∧
      (word 0x40000000#32 { State.reset with status := ⟨.err, .checksum⟩, off := 32 }).off = 32 := by decide

/-- V2.7-1: the frame on the bus. -/
theorem test_xfw_sends_frame_and_pec :
    (started 0x20000000#32 idleWrite).trace = [.w [0x44, 0x02, 0x00, 0x40, 0xAB] .pending] := by decide +kernel

/-- V2.7-9: the request, and its verified answer. -/
theorem test_xfwr_requests_the_pec_byte :
    (started 0x21000000#32 idleRead).trace = [.wr [0x0D] 3 .pending] := by decide

theorem test_xfwr_stores_verified_bytes :
    let t := answer (.ok [0x64, 0x00, 0x92]) (started 0x21000000#32 idleRead)
    t.ibuf = bytes [0x64, 0x00] ∧ t.crc = 0x92 ∧ t.z = true ∧ readPort t 2 = some 0x02#32 := by decide +kernel

/-- V2.6-5, its last attempt, with the budget used up. -/
theorem test_mismatch_reports_checksum_error :
    let t := answer (.ok [0x64, 0x00, 0x93]) { started 0x21000000#32 idleRead with retry := 0 }
    readPort t 2 = some 0x0B#32 ∧ t.crc = 0x92 ∧ t.z = false ∧ t.ibuf = [] := by decide +kernel

/-- V2.6-3, a first failure: one retry consumed, one delay. -/
theorem test_bus_error_backs_off :
    let t := answer (.busError 0xE1) (started 0x21000000#32 idleRead)
    t.retry = 0 ∧ t.seq.phase = .backoff ∧ t.trace = [.d 0, .wr [0x0D] 3 (.busError 0xE1)] := by decide

/-- R11 and V2.6-3: CRC reads 0x00 while a protected read is outstanding, and after a bus error it is as before the operation. -/
theorem test_protected_read_clears_and_keeps_crc :
    let s := started 0x21000000#32 { idleRead with crc := 0x5A }
    readPort s 0 = some 0#32 ∧ readPort (answer (.busError 0xE1) s) 0 = some 0x5A#32 ∧
      readPort (answer (.busError 0xE1) { s with retry := 0 }) 0 = some 0x5A#32 := by decide

/-- V2.8-11. -/
theorem test_dfwr_sends_chunk :
    (started 0x30000000#32 idleChunk).trace = [.w [0x44, 0x06, 0x00, 0x40, 0xDE, 0xAD, 0xBE, 0xEF, 0xCA] .pending] := by decide +kernel

/-- V2.9-4: the select-write, then the block read's request. -/
theorem test_dfrd_selects_then_reads :
    (started 0x31000000#32 idleChunk).trace = [.w [0x44, 0x02, 0x00, 0x40, 0xAB] .pending] ∧
      (answerIssue (.ok []) (started 0x31000000#32 idleChunk)).trace.head? = some (.wr [0x44] 8 .pending) := by decide +kernel

/-- V2.9-4: the answer's data, and the end. -/
theorem test_dfrd_stores_data :
    let s := answerIssue (.ok []) (started 0x31000000#32 idleChunk)
    let t := answer (.ok [0x06, 0x00, 0x40, 0xDE, 0xAD, 0xBE, 0xEF, 0x9C]) s
    t.ibuf = bytes [0xDE, 0xAD, 0xBE, 0xEF] ∧ t.crc = 0x9C ∧ t.off = 4 ∧ readPort t 2 = some 0x02#32 := by decide +kernel

/-- V2.4-14: ABORT while an attempt is outstanding. -/
theorem test_abort_cancels :
    let t := word 0x40000000#32 (started 0x30000000#32 idleChunk)
    readPort t 2 = some 0#32 ∧ t.trace.map (fun e => e.isPending) = [false] ∧ t.rem = 4 := by decide

/-- V2.4-15: not accepted, so the step is refused (log entry 1). -/
theorem test_set_base_is_not_accepted_while_busy :
    (match step ((started 0x30000000#32 idleChunk).withFetchWord 32 0x04001234) with
      | .refused r => r == .wordNotAccepted
      | _ => false) = true := by decide

/-- P2, between its two chunks: OFF = 32, REM = 16, RETRY = 0, CRC = 0xAF, BUSY, and the host may read x[9]. -/
def betweenChunks : State :=
  let s := { State.reset with
    cfg := { maxRetries := 1, pecOnRead := false, pecOnWrite := true, timeoutMs := 0 }
    obuf := bytes ((List.range 48).map (BitVec.ofNat 8)), base := 0x4000, len := 48 }
  answer (.ok []) (nextOf (step { answer (.busError 0xE1) (started 0x30000000#32 s) with inputs := [.delayDone] }))

theorem test_between_chunks :
    betweenChunks.off = 32 ∧ betweenChunks.rem = 16 ∧ betweenChunks.retry = 0 ∧ betweenChunks.crc = 0xAF ∧
      readPort betweenChunks 2 = some 1#32 ∧ readPort betweenChunks 9 = some 32#32 ∧ betweenChunks.seq.phase = .idle := by
  decide +kernel

/-- ABORT between P2's chunks takes effect in the attempt ENGINE issues next (D23), which is Cancelled, as in V2.4-14. -/
theorem test_abort_between_chunks :
    let u := nextOf (step (word 0x40000000#32 betweenChunks))
    (word 0x40000000#32 betweenChunks).seq.phase = .attempt ∧ readPort u 2 = some 0#32 ∧ u.off = 32 ∧ u.rem = 16 ∧
      u.trace.length = betweenChunks.trace.length + 1 ∧
      u.trace.head? = some (.w ([0x44, 0x12, 0x20, 0x40] ++ (List.range 16).map (fun i => BitVec.ofNat 8 (32 + i)) ++ [0x85])
        .cancelled) := by decide +kernel

/-- P2's second chunk: a fresh budget, at 0x4020, 21 bytes with the PEC byte 0x85. -/
theorem test_second_chunk_is_issued :
    let t := nextOf (step { betweenChunks with inputs := [.engine] })
    t.retry = 1 ∧ t.crc = 0x85 ∧
      t.trace.head? = some (.w ([0x44, 0x12, 0x20, 0x40] ++ (List.range 16).map (fun i => BitVec.ofNat 8 (32 + i)) ++ [0x85])
        .pending) := by decide +kernel

/-! ### Witnesses: states and operands that meet the hypotheses of each statement -/

/-- The invariant from its parts, each of them decidable. -/
theorem inv_of (s : State)
    (hr : ((s.status.err ≠ .none ↔ s.status.state = .err) ∧ s.status.err ≠ .deviceReported) ∧
      s.params.isCause s.cause = true ∧
      ((s.status.state = .busy ↔ s.seq.opk ≠ .none) ∧ (s.seq.phase ≠ .idle → s.status.state = .busy) ∧
        (s.seq.stage ≠ .none ↔ s.seq.opk = .dfrd)) ∧
      ((s.seq.opk = .dfwr ∨ s.seq.opk = .dfrd → s.off.toNat + s.rem.toNat = s.len.toNat) ∧
        (s.seq.opk = .dfwr ∨ s.seq.opk = .dfrd → s.off.toNat % 32 = 0) ∧
        (s.seq.opk = .dfwr ∨ s.seq.opk = .dfrd → s.rem ≠ 0#16) ∧ (s.seq.stage = .sel → s.off = 0#16)) ∧
      (s.seq.phase ≠ .idle → s.retry.toNat ≤ s.cfgs.maxRetries.toNat))
    (hb : (s.scratch.txb.length ≤ 37 ∧ s.scratch.rxb.length ≤ 36 ∧ requestedBytes s ≤ 36 ∧
        (s.seq.opk = .xfw → rawWriteFits s = true) ∧ (s.seq.opk = .xfwr → rawReadFits s = true) ∧
        (s.seq.phase = .idle → s.scratch = Scratch.empty) ∧ (s.seq.phase ≠ .idle → s.scratch.call = callOf s) ∧
        (s.seq.phase ≠ .idle → s.scratch.txb = frameOf s) ∧
        (s.seq.phase ≠ .idle → s.scratch.call.kind = .w → s.cfgs.pecOnWrite = true →
          s.crc = crc8 (coverW s.params s.scratch.call.out)) ∧
        (s.seq.phase = .attempt → checksRead s = true → s.crc = Config.pecInit)) ∧
      ((s.seq.phase = .attempt → s.trace.head? = some (requestEvent s)) ∧
        (s.seq.phase = .backoff → s.trace.head? = some (.d s.params.backoffMs)) ∧
        (∀ e ∈ (if s.seq.phase = .attempt then s.trace.tail else s.trace), e.isPending = false)) ∧
      (s.obuf.wf = true ∧ s.ibuf.wf = true)) : Inv s := by
  obtain ⟨⟨a1, a2⟩, a3, ⟨b1, b2, b3⟩, ⟨d1, d2, d3, d4⟩, e⟩ := hr
  obtain ⟨⟨c1, c2, c3, c8, c9, c4, c5, c6, c7, c10⟩, ⟨f1, f2, f3⟩, g1, g2⟩ := hb
  exact ⟨⟨a1, a2⟩, a3, ⟨b1, b2, b3⟩, ⟨c1, c2, c3, c8, c9, c4, c5, c6, c7, c10⟩, ⟨d1, d2, d3, d4⟩, e, ⟨f1, f2, f3⟩, ⟨g1, g2⟩⟩

/-- XF.W waiting for its answer. -/
def writeWaiting : State := { started 0x20000000#32 idleWrite with inputs := [.busAnswer (.ok [])] }

/-- XF.WR waiting, under pec_on_read. -/
def readWaiting : State := { started 0x21000000#32 idleRead with inputs := [.busAnswer (.ok [0x64, 0x00, 0x92])] }

/-- XF.WR waiting, without PEC. -/
def readPlain : State :=
  { started 0x21000000#32 { idleRead with cfg := Config.cfgResetDefault } with inputs := [.busAnswer (.ok [0x64, 0x00])] }

/-- XF.WR in its backoff. -/
def readBackoff : State := { answer (.busError 0xE1) readWaiting with inputs := [.delayDone] }

/-- DF.RD's only block read waiting. -/
def blockWaiting : State :=
  { answerIssue (.ok []) (started 0x31000000#32 { idleChunk with cfg := Config.cfgResetDefault }) with
    inputs := [.busAnswer (.ok [0x06, 0x00, 0x40, 0xDE, 0xAD, 0xBE, 0xEF])] }

/-- 35 in-bytes of a full block read. -/
def answer35 : List Byte := List.replicate 35 0x5A

/-- DF.RD of 33 bytes, its first block read waiting. -/
def longBlockWaiting : State :=
  { answerIssue (.ok []) (started 0x31000000#32 { idleChunk with cfg := Config.cfgResetDefault, len := 33 }) with
    inputs := [.busAnswer (.ok answer35)] }

theorem inv_writeWaiting : Inv writeWaiting := inv_of _ (by decide +kernel) (by decide +kernel)
theorem inv_readWaiting : Inv readWaiting := inv_of _ (by decide +kernel) (by decide +kernel)
theorem inv_readPlain : Inv readPlain := inv_of _ (by decide +kernel) (by decide +kernel)
theorem inv_readBackoff : Inv readBackoff := inv_of _ (by decide +kernel) (by decide +kernel)
theorem inv_blockWaiting : Inv blockWaiting := inv_of _ (by decide +kernel) (by decide +kernel)
theorem inv_longBlockWaiting : Inv longBlockWaiting := inv_of _ (by decide +kernel) (by decide +kernel)

/-- May the bus port answer so? -/
def answerAllowed (s : State) (o : BusOutcome) : Bool :=
  outstanding s .attempt &&
    match o with
    | .ok data => data.length == requestedBytes s
    | .busError c => s.params.isCause c
    | .timeout => s.cfgs.timeoutMs != 0#16

theorem answerOk_of (s : State) (o : BusOutcome) (h : answerAllowed s o = true) : AnswerOk s o := by
  simp only [answerAllowed, Bool.and_eq_true] at h
  obtain ⟨h1, h2⟩ := h
  cases o with
  | ok data => exact ⟨h1, by rintro _ ⟨⟩; simpa using h2, by simp, by simp⟩
  | busError c => exact ⟨h1, by simp, by simp, by rintro _ ⟨⟩; exact h2⟩
  | timeout => exact ⟨h1, by simp, fun _ => by simpa using h2, by simp⟩

theorem failingAnswer_of (s : State) (o : BusOutcome) (h : answerAllowed s o = true) (hf : failureOf s o ≠ none) :
    FailingAnswer s o := (failingAnswer_iff s o).mpr ⟨answerOk_of s o h, hf⟩

theorem passingAnswer_of (s : State) (o : BusOutcome) (h : answerAllowed s o = true) (hf : failureOf s o = none) :
    PassingAnswer s o := (passingAnswer_iff s o).mpr ⟨answerOk_of s o h, hf⟩

/-- The three ways an attempt fails, in one state; the cause at the end of its range. -/
theorem witness_FailingAnswer :
    FailingAnswer readWaiting (.busError 0xFF) ∧ FailingAnswer readWaiting .timeout ∧
      FailingAnswer readWaiting (.ok [0x64, 0x00, 0x93]) :=
  ⟨failingAnswer_of _ _ (by decide +kernel) (by decide +kernel), failingAnswer_of _ _ (by decide +kernel) (by decide +kernel),
    failingAnswer_of _ _ (by decide +kernel) (by decide +kernel)⟩

theorem witness_EncodeInvertsDecode : decode 0x0500FFFF#32 = .ok (.setLen 0xFFFF) := by decide

theorem witness_OpcodeMapSelectsByMatchAndMask :
    decode 0x01000002#32 = .ok (.cfgRetry 2) ∧ (∀ r ∈ rows, r.selects 0x0200FFFF#32 = false) ∧
      rowOf .abort ∈ rows ∧ (rowOf .abort).selects 0x40000000#32 = true := by decide

theorem witness_StepRunsTheDecodedOperation :
    (State.reset.withFetchWord 32 0x01000002).inputs = [.command 0x01000002#32] ∧
      decode 0x01000002#32 = .ok (.cfgRetry 2) := by decide

/-- Undefined words at the edges of the table, in both states of the command port. -/
theorem witness_UndefinedWordReportsProtocolViolation :
    (∀ r ∈ rows, r.selects 0x01000100#32 = false) ∧ (∀ r ∈ rows, r.selects 0x02000004#32 = false) ∧
      (∀ r ∈ rows, r.selects 0x00000000#32 = false) ∧ (∀ r ∈ rows, r.selects 0x40010000#32 = false) ∧
      State.reset.busy = false ∧ readWaiting.busy = true := by decide

/-- A defined word that is not accepted, an undefined one, and accepted words in both states of the command port. -/
theorem witness_UnacceptedWordIsRefused :
    readWaiting.busy = true ∧ decode 0x04001234#32 = .ok (.setBase 0x1234) ∧
      Instr.acceptedWhileBusy (.setBase 0x1234) = false ∧ decode 0x00000000#32 = .error (.unknownOp 0) ∧
      Instr.acceptedWhileBusy (.cfgRetry 5) = true ∧ State.reset.busy = false := by decide

/-- CFG.RETRY while BUSY; DF.WR up to the end of the window when not. -/
theorem witness_CarefulHostCausesNoProtocolViolation :
    CarefulWord readWaiting 0x01000005#32 ∧ CarefulWord { idleChunk with base := 0xFFFC } 0x30000000#32 := by
  refine ⟨⟨fun _ => ⟨.cfgRetry 5, by decide, rfl⟩, .cfgRetry 5, by decide, nofun, nofun, ?_⟩,
    ⟨fun h => absurd h (by decide), .dfWr, by decide, nofun, nofun, fun _ => ?_⟩⟩
  · rintro (h | h) <;> cases h
  · unfold InWindow; decide

/-- Acceptance, an immediate operation, and the three later steps of an operation. -/
theorem witness_SnapshotGovernsTheOperation :
    ((∃ t, exec .xfW idleWrite = .next t) ∧ classOf .xfW = .raw) ∧
    ((∃ t, exec .pecClr idleWrite = .next t) ∧ classOf .pecClr ≠ .raw ∧ classOf .pecClr ≠ .chunked) ∧
    (∃ t, step { word 0x20000000#32 idleWrite with inputs := [.engine] } = .next t) ∧
    (readWaiting.inputs = [.busAnswer (.ok [0x64, 0x00, 0x92])] ∧ ∃ t, step readWaiting = .next t) ∧
    (readBackoff.inputs = [.delayDone] ∧ ∃ t, step readBackoff = .next t) :=
  ⟨⟨⟨_, rfl⟩, rfl⟩, ⟨⟨_, rfl⟩, by decide, by decide⟩, ⟨_, rfl⟩, ⟨rfl, ⟨_, rfl⟩⟩, rfl, ⟨_, rfl⟩⟩

theorem witness_OperandOperationsWriteTheirRegister : State.reset.busy = false ∧ readWaiting.busy = true := by decide

/-- Not BUSY, in ATTEMPT, in BACKOFF, and between two attempts. -/
theorem witness_AbortEndsTheOperation :
    State.reset.busy = false ∧ (readWaiting.busy = true ∧ readWaiting.seq.phase = .attempt) ∧
      (readBackoff.busy = true ∧ readBackoff.seq.phase = .backoff) ∧
      (betweenChunks.busy = true ∧ betweenChunks.seq.phase = .idle) := by decide +kernel

theorem witness_AccumulatorOperations : State.reset.busy = false ∧ readWaiting.busy = true := by decide

theorem witness_CompareSetsMatchFlag : State.reset.busy = false ∧ readWaiting.busy = true := by decide

theorem witness_SingleBitFlipIsDetected :
    0 < ([0x16, 0x44] : List Byte).length ∧ 1 < ([0x16, 0x44] : List Byte).length ∧ (7 : Nat) < 8 := by decide

/-- The frame that just fits TXB and the one that does not, under each pec_on_write (V2.7-4 to V2.7-7). -/
theorem witness_RawWriteIsIssued :
    State.reset.busy = false ∧ (37#16 : Half).toNat + false.toNat ≤ 37 ∧ 37 < (38#16 : Half).toNat + false.toNat ∧
      (36#16 : Half).toNat + true.toNat ≤ 37 ∧ 37 < (37#16 : Half).toNat + true.toNat := by decide

/-- The same for the in-frame (V2.7-11). -/
theorem witness_RawReadIsIssued :
    State.reset.busy = false ∧ ((37#16 : Half).toNat ≤ 37 ∧ (36#16 : Half).toNat + false.toNat ≤ 36) ∧
      36 < (36#16 : Half).toNat + true.toNat ∧ 37 < (38#16 : Half).toNat ∧ (35#16 : Half).toNat + true.toNat ≤ 36 := by
  decide

theorem witness_ChunkedWriteIsIssued : idleChunk.busy = false ∧ idleChunk.len ≠ 0#16 := by decide

theorem witness_ChunkedReadSelectsFirst : idleChunk.busy = false ∧ idleChunk.len ≠ 0#16 := by decide

/-- DF.RD accepted, and its select-write answered. -/
def readAccepted : State := word 0x31000000#32 idleChunk
def readSelected : State := answer (.ok []) (started 0x31000000#32 idleChunk)

theorem inv_betweenChunks : Inv betweenChunks := inv_of _ (by decide +kernel) (by decide +kernel)
theorem inv_readAccepted : Inv readAccepted := inv_of _ (by decide +kernel) (by decide +kernel)
theorem inv_readSelected : Inv readSelected := inv_of _ (by decide +kernel) (by decide +kernel)
theorem inv_writeAccepted : Inv (word 0x20000000#32 idleWrite) := inv_of _ (by decide +kernel) (by decide +kernel)
theorem inv_readRawAccepted : Inv (word 0x21000000#32 idleRead) := inv_of _ (by decide +kernel) (by decide +kernel)

/-- One state for each clause; DF.WR's at its second chunk. -/
theorem witness_EngineIssuesTheNextAttempt :
    (∀ s ∈ [word 0x20000000#32 idleWrite, word 0x21000000#32 idleRead, betweenChunks, readAccepted, readSelected],
      Inv s ∧ s.status.state = .busy ∧ s.seq.phase = .idle) ∧
    (word 0x20000000#32 idleWrite).seq.opk = .xfw ∧ (word 0x21000000#32 idleRead).seq.opk = .xfwr ∧
    betweenChunks.seq.opk = .dfwr ∧ readAccepted.seq = ⟨.dfrd, .sel, .idle⟩ ∧ readSelected.seq = ⟨.dfrd, .blk, .idle⟩ := by
  refine ⟨?_, by decide +kernel⟩
  simp only [List.forall_mem_cons]
  exact ⟨⟨inv_writeAccepted, by decide +kernel⟩, ⟨inv_readRawAccepted, by decide +kernel⟩,
    ⟨inv_betweenChunks, by decide +kernel⟩, ⟨inv_readAccepted, by decide +kernel⟩,
    ⟨inv_readSelected, by decide +kernel⟩, by simp⟩

theorem witness_ZeroLengthTransferEndsAtOnce : State.reset.busy = false ∧ State.reset.len = 0#16 := by decide

theorem witness_OperationFrame :
    (∃ t, exec .dfRd idleChunk = .next t) ∧ (∃ t, exec .abort readWaiting = .next t) ∧
      (classOf .abort = .control ∧ engineReady betweenChunks = true ∧ ∃ t, exec .abort betweenChunks = .next t) :=
  ⟨⟨_, rfl⟩, ⟨_, rfl⟩, rfl, by decide +kernel, ⟨_, rfl⟩⟩

theorem witness_RawWriteCompletes :
    Inv writeWaiting ∧ writeWaiting.seq.opk = .xfw ∧ writeWaiting.seq.phase = .attempt ∧
      writeWaiting.inputs = [.busAnswer (.ok [])] :=
  ⟨inv_writeWaiting, by decide, by decide, rfl⟩

/-- With the checksum of V2.2-10, and without PEC. -/
theorem witness_RawReadCompletes :
    (Inv readWaiting ∧ readWaiting.seq.opk = .xfwr ∧ readWaiting.seq.phase = .attempt ∧
      [0x64, 0x00, (0x92 : Byte)].length = readWaiting.ilen.toNat + readWaiting.cfgs.pecOnRead.toNat ∧
      0x92#8 = crc8 ([addrWrite readWaiting.params] ++ memRead readWaiting .obuf 0#16 readWaiting.len.toNat ++
        [addrRead readWaiting.params] ++ [0x64, 0x00])) ∧
    (Inv readPlain ∧ readPlain.seq.opk = .xfwr ∧ readPlain.seq.phase = .attempt ∧ readPlain.cfgs.pecOnRead = false ∧
      [0x64, (0x00 : Byte)].length = readPlain.ilen.toNat + readPlain.cfgs.pecOnRead.toNat) :=
  ⟨⟨inv_readWaiting, by decide +kernel⟩, ⟨inv_readPlain, by decide +kernel⟩⟩

/-- Each way of failing, with budget left. -/
theorem witness_FailedAttemptConsumesOneRetry :
    FailingAnswer readWaiting (.busError 0xFF) ∧ FailingAnswer readWaiting .timeout ∧
      FailingAnswer readWaiting (.ok [0x64, 0x00, 0x93]) ∧ readWaiting.retry ≠ 0#8 :=
  ⟨witness_FailingAnswer.1, witness_FailingAnswer.2.1, witness_FailingAnswer.2.2, by decide +kernel⟩

/-- The budget used up, for each way of failing. -/
theorem witness_ExhaustedBudgetRaisesTheLastFailure :
    FailingAnswer { readWaiting with retry := 0 } (.busError 0xFF) ∧ FailingAnswer { readWaiting with retry := 0 } .timeout ∧
      FailingAnswer { readWaiting with retry := 0 } (.ok [0x64, 0x00, 0x93]) :=
  witness_FailingAnswer

theorem witness_RetryReissuesIdentically : Inv readBackoff ∧ readBackoff.seq.phase = .backoff :=
  ⟨inv_readBackoff, by decide +kernel⟩

/-- Budget 1: no failure and one failure before the success. -/
theorem witness_RetriesSucceedWithinTheBudget :
    Inv readWaiting ∧ readWaiting.seq.phase = .attempt ∧ readWaiting.retry = readWaiting.cfgs.maxRetries ∧
      [BusOutcome.timeout].length ≤ readWaiting.cfgs.maxRetries.toNat ∧ FailingAnswer readWaiting .timeout ∧
      PassingAnswer readWaiting (.ok [0x64, 0x00, 0x92]) :=
  ⟨inv_readWaiting, by decide +kernel, by decide +kernel, by decide +kernel, witness_FailingAnswer.2.1,
    passingAnswer_of _ _ (by decide +kernel) (by decide +kernel)⟩

/-- Budget 1: one failure, then another; budget 0: the first one. -/
theorem witness_RetriesExhaustTheBudget :
    (Inv readWaiting ∧ readWaiting.seq.phase = .attempt ∧ readWaiting.retry = readWaiting.cfgs.maxRetries ∧
      [BusOutcome.timeout].length = readWaiting.cfgs.maxRetries.toNat ∧ FailingAnswer readWaiting .timeout ∧
      FailingAnswer readWaiting (.busError 0xFF)) ∧
    (Inv readPlain ∧ readPlain.retry = readPlain.cfgs.maxRetries ∧ readPlain.cfgs.maxRetries.toNat = 0 ∧
      FailingAnswer readPlain (.busError 0xE1)) :=
  ⟨⟨inv_readWaiting, by decide +kernel, by decide +kernel, by decide +kernel, witness_FailingAnswer.2.1,
      witness_FailingAnswer.1⟩,
    ⟨inv_readPlain, by decide +kernel, by decide +kernel,
      failingAnswer_of _ _ (by decide +kernel) (by decide +kernel)⟩⟩

/-- DF.RD of 32 bytes, its only block read waiting. -/
def fullBlockWaiting : State :=
  { answerIssue (.ok []) (started 0x31000000#32 { idleChunk with cfg := Config.cfgResetDefault, len := 32 }) with
    inputs := [.busAnswer (.ok answer35)] }

theorem inv_fullBlockWaiting : Inv fullBlockWaiting := inv_of _ (by decide +kernel) (by decide +kernel)

/-- DF.RD's only block read waiting under pec_on_read, and V2.9-4's answer to it. -/
def checkedBlockWaiting : State :=
  nextOf (step { readSelected with inputs := [.engine] })
def checkedBlockAnswer : List Byte := [0x06, 0x00, 0x40, 0xDE, 0xAD, 0xBE, 0xEF, 0x9C]

theorem inv_checkedBlockWaiting : Inv checkedBlockWaiting := inv_of _ (by decide +kernel) (by decide +kernel)

/-- REM = 4, REM = 32 and REM = 33: the last block, a full last one, and one that is not the last; and one under pec_on_read. -/
theorem witness_BlockReadStoresItsChunk :
    (Inv blockWaiting ∧ blockWaiting.seq = ⟨.dfrd, .blk, .attempt⟩ ∧ blockWaiting.cfgs.pecOnRead = false ∧
      PassingAnswer blockWaiting (.ok [0x06, 0x00, 0x40, 0xDE, 0xAD, 0xBE, 0xEF]) ∧ blockWaiting.rem = 4) ∧
    (Inv fullBlockWaiting ∧ fullBlockWaiting.seq = ⟨.dfrd, .blk, .attempt⟩ ∧
      PassingAnswer fullBlockWaiting (.ok answer35) ∧ fullBlockWaiting.rem = 32) ∧
    (Inv longBlockWaiting ∧ longBlockWaiting.seq = ⟨.dfrd, .blk, .attempt⟩ ∧
      PassingAnswer longBlockWaiting (.ok answer35) ∧ longBlockWaiting.rem = 33) ∧
    (Inv checkedBlockWaiting ∧ checkedBlockWaiting.seq = ⟨.dfrd, .blk, .attempt⟩ ∧
      checkedBlockWaiting.cfgs.pecOnRead = true ∧ PassingAnswer checkedBlockWaiting (.ok checkedBlockAnswer)) :=
  ⟨⟨inv_blockWaiting, by decide +kernel, by decide +kernel, passingAnswer_of _ _ (by decide +kernel) (by decide +kernel),
      by decide +kernel⟩,
    ⟨inv_fullBlockWaiting, by decide +kernel, passingAnswer_of _ _ (by decide +kernel) (by decide +kernel), by decide +kernel⟩,
    ⟨inv_longBlockWaiting, by decide +kernel, passingAnswer_of _ _ (by decide +kernel) (by decide +kernel), by decide +kernel⟩,
    inv_checkedBlockWaiting, by decide +kernel, by decide +kernel,
    passingAnswer_of _ _ (by decide +kernel) (by decide +kernel)⟩

/-- A first attempt of XF.WR, one of a block read, and a reissued one; each way of getting no answer. -/
theorem witness_ProtectedReadAttemptClearsCrc :
    (Inv (word 0x21000000#32 idleRead) ∧ (word 0x21000000#32 idleRead).cfgs.pecOnRead = true ∧
      (word 0x21000000#32 idleRead).seq = ⟨.xfwr, .none, .idle⟩) ∧
    (Inv readSelected ∧ readSelected.cfgs.pecOnRead = true ∧ readSelected.seq = ⟨.dfrd, .blk, .idle⟩) ∧
    (Inv readBackoff ∧ readBackoff.cfgs.pecOnRead = true ∧ readBackoff.seq.phase = .backoff ∧
      readBackoff.scratch.call.kind = .wr ∧ readBackoff.cfgs.timeoutMs ≠ 0#16 ∧ readBackoff.params.isCause 0xFF = true) :=
  ⟨⟨inv_readRawAccepted, by decide +kernel⟩, ⟨inv_readSelected, by decide +kernel⟩, inv_readBackoff, by decide +kernel⟩

/-- DF.WR of `len` bytes, its first chunk waiting. -/
def chunkWaiting (len : Half) : State :=
  { started 0x30000000#32 { idleChunk with len := len, obuf := bytes ((List.range 33).map (BitVec.ofNat 8)) } with
    inputs := [.busAnswer (.ok [])] }

/-- REM = 32 and REM = 33. -/
theorem witness_ChunkWriteCountsItsChunk :
    (Inv (chunkWaiting 32) ∧ (chunkWaiting 32).seq = ⟨.dfwr, .none, .attempt⟩ ∧ (chunkWaiting 32).rem = 32) ∧
    (Inv (chunkWaiting 33) ∧ (chunkWaiting 33).seq = ⟨.dfwr, .none, .attempt⟩ ∧ (chunkWaiting 33).rem = 33) :=
  ⟨⟨inv_of _ (by decide +kernel) (by decide +kernel), by decide +kernel⟩,
    inv_of _ (by decide +kernel) (by decide +kernel), by decide +kernel⟩

/-- The select-write waiting for its answer. -/
def selectWaiting : State := { started 0x31000000#32 idleChunk with inputs := [.busAnswer (.ok [])] }

theorem witness_SelectWriteTurnsToBlockReads :
    Inv selectWaiting ∧ selectWaiting.seq = ⟨.dfrd, .sel, .attempt⟩ :=
  ⟨inv_of _ (by decide +kernel) (by decide +kernel), by decide +kernel⟩

/-- V2.9-7: another prefix, the same data. -/
theorem witness_EchoedPrefixIsIgnored :
    PassingAnswer blockWaiting (.ok [0x06, 0x00, 0x40, 0xDE, 0xAD, 0xBE, 0xEF]) ∧
      PassingAnswer blockWaiting (.ok [0xFF, 0x99, 0x99, 0xDE, 0xAD, 0xBE, 0xEF]) ∧
      ([0xFF, 0x99, 0x99, 0xDE] : List Byte).drop 3 = ([0x06, 0x00, 0x40, 0xDE] : List Byte).drop 3 :=
  ⟨passingAnswer_of _ _ (by decide +kernel) (by decide +kernel), passingAnswer_of _ _ (by decide +kernel) (by decide +kernel),
    by decide⟩

/-- The chunk counts of LEN 0, 32 and 33 (R161), and a schedule. -/
theorem witness_ChunkedWriteSendsEveryChunk :
    idleChunk.busy = false ∧ chunkCount { idleChunk with len := 0 } = 0 ∧ chunkCount { idleChunk with len := 32 } = 1 ∧
      chunkCount { idleChunk with len := 33 } = 2 ∧
      answeredTurns (List.replicate 1 (.ok [])) ++ [] = [.engine, .busAnswer (.ok [])] ∧
      (∃ u, exec .dfWr idleChunk = .next u) :=
  ⟨by decide, by decide, by decide, by decide, by decide, ⟨_, rfl⟩⟩

/-- V2.9-4's answer is a good one. -/
theorem witness_ChunkedReadReassembles :
    idleChunk.busy = false ∧ idleChunk.len ≠ 0#16 ∧ chunkCount idleChunk = 1 ∧
      GoodAnswer idleChunk 0 [0x06, 0x00, 0x40, 0xDE, 0xAD, 0xBE, 0xEF, 0x9C] :=
  ⟨by decide, by decide, by decide, by decide, fun _ => by decide +kernel⟩

/-- A transfer that ends exactly at the end of the address space. -/
theorem witness_WriteThenReadRoundTrip :
    idleChunk.busy = false ∧ InWindow idleChunk ∧ InWindow { idleChunk with base := 0xFFFC } := by
  refine ⟨by decide, ?_, ?_⟩ <;> unfold InWindow <;> decide

theorem witness_StepKeepsTheInvariant : Inv readWaiting ∧ ∃ t, step readWaiting = .next t :=
  ⟨inv_readWaiting, ⟨_, rfl⟩⟩

theorem witness_ParametersNeverChange : ∃ t, step readWaiting = .next t := ⟨_, rfl⟩

/-- In ATTEMPT and out of it. -/
theorem witness_TraceOnlyGrows :
    (Inv writeWaiting ∧ writeWaiting.seq.phase = .attempt ∧ ∃ t, step writeWaiting = .next t) ∧
    (Inv readBackoff ∧ readBackoff.seq.phase ≠ .attempt ∧ ∃ t, step readBackoff = .next t) :=
  ⟨⟨inv_writeWaiting, by decide +kernel, ⟨_, rfl⟩⟩, inv_readBackoff, by decide +kernel, ⟨_, rfl⟩⟩

theorem witness_ResetSetsEveryRegister :
    ({ readWaiting with inputs := [.reset] } : State).inputs = [.reset] ∧ readWaiting.seq.phase = .attempt ∧
      readBackoff.seq.phase ≠ .attempt := by decide

/-- One step for each error: the block's state before it, and the report after it. -/
theorem witness_EveryErrorHasItsCause :
    (answer (.busError 0xE1) { readWaiting with retry := 0 }).status.err = .communication ∧
      (answer (.ok [0x64, 0x00, 0x93]) { readWaiting with retry := 0 }).status.err = .checksum ∧
      (answer .timeout { readWaiting with retry := 0 }).status.err = .timeout ∧
      (word 0x20000000#32 { idleWrite with len := 37 }).status.err = .protocolViolation ∧
      (word 0x21000000#32 { idleRead with ilen := 36 }).status.err = .protocolViolation ∧
      (word 0x00000000#32 State.reset).status.err = .protocolViolation := by decide +kernel

theorem witness_MatchFlagWriters :
    (word 0x14000000#32 State.reset).z ≠ State.reset.z ∧ (answer (.ok [0x64, 0x00, 0x92]) readWaiting).z ≠ readWaiting.z := by
  decide +kernel

theorem witness_CauseWriters :
    (answer (.busError 0xE1) { readWaiting with retry := 0 }).cause ≠ readWaiting.cause := by decide +kernel

theorem witness_BufferWriters :
    (nextOf (step { State.reset with inputs := [.storeBuf .obuf 0xFFFF 1] })).obuf ≠ State.reset.obuf ∧
      (nextOf (step { State.reset with inputs := [.storeBuf .ibuf 0 1] })).ibuf ≠ State.reset.ibuf ∧
      (answer (.ok [0x64, 0x00, 0x92]) readWaiting).ibuf ≠ readWaiting.ibuf := by decide +kernel

theorem witness_ProgressSumsToLength :
    Inv longBlockWaiting ∧ longBlockWaiting.seq.opk = .dfrd ∧ (∃ t, step longBlockWaiting = .next t) :=
  ⟨inv_longBlockWaiting, by decide +kernel, ⟨_, rfl⟩⟩

/-- Turns at the edges of what each agent may do: the last register index, a buffer while BUSY and not, ENGINE between attempts and
in one, a word accepted while BUSY and one not, the last cause and the first code that is none. -/
theorem witness_InputStepsIffItsAgentHasTheStep :
    InputOk State.reset (.readReg 11) ∧ ¬InputOk State.reset (.readReg 12) ∧ InputOk State.reset (.loadBuf .ibuf 0xFFFF) ∧
      ¬InputOk readWaiting (.loadBuf .ibuf 0) ∧ InputOk readWaiting (.loadBuf .obuf 0) ∧ InputOk readBackoff .delayDone ∧
      ¬InputOk State.reset .delayDone ∧ InputOk betweenChunks .engine ∧ ¬InputOk readWaiting .engine ∧
      ¬InputOk State.reset .engine ∧ InputOk readWaiting (.command 0x40000000#32) ∧
      ¬InputOk readWaiting (.command 0x40010000#32) ∧ InputOk readWaiting (.busAnswer .timeout) ∧
      InputOk readWaiting (.busAnswer (.busError 0xFF)) ∧ ¬InputOk readWaiting (.busAnswer (.busError 0x100)) := by
  refine ⟨?_, ?_, ?_, ?_, ?_, ?_, ?_, ?_, ?_, ?_, fun _ => ⟨.abort, by decide, rfl⟩, fun h => ?_, witness_FailingAnswer.2.1.1,
    witness_FailingAnswer.1.1, fun h => ?_⟩
  iterate 10 (unfold InputOk; decide +kernel)
  · obtain ⟨i, hi, _⟩ := h (by decide +kernel)
    have : decode 0x40010000#32 = .error (.reservedField 1) := by decide
    rw [this] at hi; cases hi
  · exact absurd (h.2.2.2 _ rfl) (by decide +kernel)

/-- Each kind of index, CAUSE while ERR = 1 among them, and the first that does not exist. -/
theorem witness_ReadPortShowsEveryRegister :
    readPort readWaiting 4 = some 0x00320301#32 ∧ readPort readWaiting 5 = some 0x00320301#32 ∧
      readPort readWaiting 2 = some 1#32 ∧ readPort betweenChunks 0 = some 0xAF#32 ∧ readPort betweenChunks 10 = some 16#32 ∧
      (answer (.busError 0xE1) { readWaiting with retry := 0 }).status.err = .communication ∧
      readPort (answer (.busError 0xE1) { readWaiting with retry := 0 }) 3 = some 0xE1#32 ∧
      readPort State.reset 12 = none := by decide +kernel

theorem witness_RegisterReadHasNoSideEffect :
    0 < 12 ∧ 11 < 12 ∧ readPort State.reset 12 = none ∧ readWaiting.status.err ≠ .communication ∧
      (answer (.busError 0xE1) { readWaiting with retry := 0 }).status.err = .communication := by decide +kernel

theorem witness_BuffersAreOwnedWhileBusy : readWaiting.busy = true := by decide

theorem witness_BufferReadAfterWrite : (0xFFFF#16 : Half).toNat + [(0x5A : Byte)].length ≤ 65536 := by decide

/-- A store and a load when not BUSY, and a load of OBUF while BUSY. -/
theorem witness_HostAccessesOneByte :
    State.reset.busy = false ∧ readWaiting.busy = true ∧
      (nextOf (step { readWaiting with inputs := [.loadBuf .obuf 0] })).reads = [.buf .obuf 0 0x0D] := by decide +kernel

/-- The first chunk and the last one a 16-bit LEN has. -/
theorem witness_ChunkAddressIsTheSixteenBitSum :
    State.reset.off.toNat = 32 * 0 ∧ ({ State.reset with off := 0xFFE0 } : State).off.toNat = 32 * 2047 := by decide

/-- Nothing to issue, and an attempt to issue. -/
theorem witness_NoInputMeansWaiting :
    (State.reset.inputs = [] ∧ engineReady State.reset = false) ∧ (betweenChunks.inputs = [] ∧ engineReady betweenChunks = true) := by
  decide +kernel

end Sys2Proof.Tests
end

/-! ### What the host's turns and reset can do -/

namespace Sys2Proof.Machine

/-- A register read that goes on names a register there is, and delivers its word (R32). -/
theorem hostReadReg_next {i : Nat} {s t : State} (h : hostReadReg i s = .next t) :
    ∃ v, readPort s i = some v ∧
      t = { s with
        reads := .reg i v :: s.reads
        drawn := if readsUnspecified s i then s.drawn + 1 else s.drawn } := by
  unfold hostReadReg at h
  split at h
  · cases h
  · rename_i v hv
    exact ⟨v, hv, by cases h; rfl⟩

/-- A buffer load that goes on was allowed (R56), and delivers the byte. -/
theorem hostLoad_next {sp : Space} {a : Half} {s t : State} (h : hostLoad sp a s = .next t) :
    mayLoad s sp = true ∧ t = { s with reads := .buf sp a (readByte s sp a) :: s.reads } := by
  unfold hostLoad at h
  split at h
  · exact ⟨‹_›, by cases h; rfl⟩
  · cases h

/-- A buffer store that goes on was made when not BUSY (R56), and stores the byte. -/
theorem hostStore_next {sp : Space} {a : Half} {v : Byte} {s t : State} (h : hostStore sp a v s = .next t) :
    s.busy = false ∧ t = storeByte sp a v s := by
  unfold hostStore at h
  split at h
  · cases h
  · exact ⟨Bool.eq_false_iff.mpr ‹_›, by cases h; rfl⟩

@[simp] theorem storeByte_params (sp : Space) (a : Half) (v : Byte) (s : State) :
    (storeByte sp a v s).params = s.params := by cases sp <;> rfl

@[simp] theorem resetBlock_params (s : State) : (resetBlock s).params = s.params := abandonRequest_params s

end Sys2Proof.Machine

/-! ### The parameters -/

namespace Sys2Proof.Proofs

open Sys2Proof.Machine

/-- No agent's turn changes a parameter (R4): each has one effect, whose frame holds the parameters. -/
theorem perform_params {i : Input} {s t : State} (h : perform i s = .next t) : t.params = s.params := by
  cases i with
  | engine =>
    obtain ⟨-, rfl⟩ := engineIssues_next h
    exact issueNext_params s
  | command w =>
    obtain ⟨i, -, -, rfl⟩ | ⟨e, -, -, rfl⟩ := presentWord_cases h
    · exact effectOf_params i s
    · exact reportError_params _ s
  | busAnswer o =>
    obtain ⟨-, rfl⟩ := busAnswers_next h
    exact completeAttempt_params o s
  | delayDone =>
    obtain ⟨-, rfl⟩ := delayEnds_next h
    exact completeBackoff_params s
  | readReg i =>
    obtain ⟨v, -, rfl⟩ := hostReadReg_next h
    rfl
  | loadBuf sp a =>
    obtain ⟨-, rfl⟩ := hostLoad_next h
    rfl
  | storeBuf sp a v =>
    obtain ⟨-, rfl⟩ := hostStore_next h
    exact storeByte_params sp a v s
  | reset =>
    cases h
    exact resetBlock_params s

/-- Settles O44: the next turn's effect keeps the parameters, and with no turn scheduled ENGINE's s1 or waiting does. -/
theorem parametersNeverChange : Obligations.ParametersNeverChange := by
  intro s t h
  obtain ⟨-, rfl⟩ | ⟨i, rest, -, hp⟩ := step_cases h
  · split
    · exact issueNext_params s
    · rfl
  · exact perform_params (s := { s with inputs := rest }) hp

end Sys2Proof.Proofs

/-! ### What a turn does -/

namespace Sys2Proof.Machine

open Sys2Proof.Claims

/-- What a turn does to the block when its agent has it (R30). -/
def turnEffect : Input → State → State
  | .engine, s => issueNext s
  | .command w, s =>
    match decode w with
    | .ok i => effectOf i s
    | .error _ => reportError .protocolViolation s
  | .busAnswer o, s => completeAttempt o s
  | .delayDone, s => completeBackoff s
  | .readReg i, s =>
    { s with
      reads := .reg i ((readPort s i).getD 0#32) :: s.reads
      drawn := if readsUnspecified s i then s.drawn + 1 else s.drawn }
  | .loadBuf sp a, s => { s with reads := .buf sp a (readByte s sp a) :: s.reads }
  | .storeBuf sp a v, s => storeByte sp a v s
  | .reset, s => resetBlock s

/-- A presented word has its operation's effect, or is reported as undefined (R69). -/
theorem turnEffect_command_cases (w : Word) (s : State) :
    (∃ i, decode w = .ok i ∧ turnEffect (.command w) s = effectOf i s) ∨
    (∃ e, decode w = .error e ∧ turnEffect (.command w) s = reportError .protocolViolation s) := by
  cases hd : decode w with
  | ok i => exact .inl ⟨i, rfl, by simp [turnEffect, hd]⟩
  | error e => exact .inr ⟨e, rfl, by simp [turnEffect, hd]⟩

/-- A turn that goes on is one its agent has, and has its effect. -/
theorem perform_next {i : Input} {s t : State} (h : perform i s = .next t) : InputOk s i ∧ t = turnEffect i s := by
  cases i with
  | engine => exact engineIssues_next h
  | command w =>
    obtain ⟨i, hd, ha, rfl⟩ | ⟨e, hd, hb, rfl⟩ := presentWord_cases h
    · exact ⟨fun hb => ⟨i, hd, ha hb⟩, by simp [turnEffect, hd]⟩
    · exact ⟨fun hb' => by simp [hb] at hb', by simp [turnEffect, hd]⟩
  | busAnswer o => exact busAnswers_next h
  | delayDone => exact delayEnds_next h
  | readReg i =>
    obtain ⟨v, hv, rfl⟩ := hostReadReg_next h
    exact ⟨(readPort_isSome_iff s i).mp ⟨v, hv⟩, by simp [turnEffect, hv]⟩
  | loadBuf sp a =>
    obtain ⟨hl, rfl⟩ := hostLoad_next h
    refine ⟨?_, rfl⟩
    cases sp with
    | obuf => trivial
    | ibuf =>
      have hb : s.busy = false := by simpa [mayLoad] using hl
      exact hb
  | storeBuf sp a v => exact hostStore_next h
  | reset => exact ⟨trivial, by cases h; rfl⟩

/-- A turn its agent has goes on. -/
theorem perform_of_inputOk {i : Input} {s : State} (h : InputOk s i) : perform i s = .next (turnEffect i s) := by
  cases i with
  | engine => exact if_pos h
  | command w =>
    have ha : s.busy = true → ∃ i, decode w = .ok i ∧ Instr.acceptedWhileBusy i = true := h
    cases hd : decode w with
    | ok i =>
      have hb : ¬(s.busy && !Instr.acceptedWhileBusy i) = true := by simpa [hd] using ha
      simp [perform, presentWord, turnEffect, hd, exec_eq, hb]
    | error e =>
      have hb : s.busy = false := by simpa [hd] using ha
      simp [perform, presentWord, turnEffect, hd, undefinedWord, acceptUnlessBusy, hb]
  | busAnswer o => exact busAnswers_of_ok h
  | delayDone => exact if_pos h
  | readReg i =>
    obtain ⟨v, hv⟩ := (readPort_isSome_iff s i).mpr h
    simp [perform, hostReadReg, turnEffect, hv]
  | loadBuf sp a =>
    cases sp with
    | obuf => rfl
    | ibuf =>
      have hl : mayLoad s .ibuf = true := by
        have hb : s.busy = false := h
        simp [mayLoad, hb]
      exact if_pos hl
  | storeBuf sp a v =>
    have hb : s.busy = false := h
    simp [perform, hostStore, turnEffect, hb]
  | reset => rfl

/-- Whether an agent has a turn does not depend on the turns after it. -/
theorem inputOk_withInputs (s : State) (l : List Input) (i : Input) : InputOk { s with inputs := l } i ↔ InputOk s i := by
  cases i with
  | loadBuf sp a => cases sp <;> exact Iff.rfl
  | _ => exact Iff.rfl

/-- A step that goes on: nothing is scheduled, and the block waits or ENGINE issues; or the next turn is one its agent has. -/
theorem step_next {s t : State} (h : step s = .next t) :
    (s.inputs = [] ∧ (t = s ∨ engineReady s = true ∧ t = issueNext s)) ∨
    ∃ i rest, s.inputs = i :: rest ∧ InputOk s i ∧ t = turnEffect i { s with inputs := rest } := by
  obtain ⟨hi, rfl⟩ | ⟨i, rest, hi, hp⟩ := step_cases h
  · refine .inl ⟨hi, ?_⟩
    split
    · exact .inr ⟨‹_›, rfl⟩
    · exact .inl rfl
  · obtain ⟨hok, ht⟩ := perform_next hp
    exact .inr ⟨i, rest, hi, (inputOk_withInputs s rest i).mp hok, ht⟩

/-- The next turn, if its agent has it, is the step. -/
theorem step_of_inputOk {s : State} {i : Input} {rest : List Input} (hi : s.inputs = i :: rest) (h : InputOk s i) :
    step s = .next (turnEffect i { s with inputs := rest }) := by
  rw [step_cons hi]
  exact perform_of_inputOk ((inputOk_withInputs s rest i).mpr h)

end Sys2Proof.Machine

/-! ### The ports -/

namespace Sys2Proof.Proofs

open Sys2Proof.Machine Sys2Proof.Claims

/-- Settles O51: a turn that its agent has goes on, and one that goes on is one its agent has. -/
theorem inputStepsIffItsAgentHasTheStep : Obligations.InputStepsIffItsAgentHasTheStep := by
  intro s i rest hi
  refine ⟨fun ⟨t, ht⟩ => ?_, fun h => ⟨_, step_of_inputOk hi h⟩⟩
  rw [step_cons hi] at ht
  exact (inputOk_withInputs s rest i).mp (perform_next ht).1

/-- Settles O5: the next turn presents the word, and presenting one that decodes runs its operation. -/
theorem stepRunsTheDecodedOperation : Obligations.StepRunsTheDecodedOperation := by
  intro s w rest i hi hd
  simp only [step_cons hi, perform, presentWord, hd]

/-- Settles O52: a read has its effect on the record alone; x[3] shows CAUSE by `causeView`. -/
theorem registerReadHasNoSideEffect : Obligations.RegisterReadHasNoSideEffect := by
  intro s i rest hlt hi
  obtain ⟨v, hv⟩ := (readPort_isSome_iff s i).mpr hlt
  have hv' : readPort { s with inputs := rest } i = some v := hv
  refine ⟨v, if readsUnspecified s i then s.drawn + 1 else s.drawn, hv, ?_, ?_⟩
  · rw [step_of_inputOk hi hlt, turnEffect, hv', Option.getD_some]; rfl
  · rintro rfl he
    have h3 : some (causeView s) = some v := hv
    rw [← Option.some.inj h3, causeView, if_pos he]

end Sys2Proof.Proofs

/-! ### The words of the read port -/

namespace Sys2Proof.Machine

open Sys2Proof.Claims

/-- STATUS packed is STATE's number plus four times ERR's (R15). -/
theorem pack_toNat (st : Status) : st.pack.toNat = stateNumber st.state + 4 * errNumber st.err := by
  obtain ⟨state, err⟩ := st
  cases state <;> cases err <;> rfl

/-- Each field of a configuration record where R13 packs it, and zero between. -/
theorem packCfg_fields (r : CfgRecord) :
    (packCfg r).extractLsb' 0 8 = r.maxRetries ∧ (packCfg r).getLsbD 8 = r.pecOnRead ∧
      (packCfg r).getLsbD 9 = r.pecOnWrite ∧ (packCfg r).extractLsb' 10 6 = 0#6 ∧
      (packCfg r).extractLsb' 16 16 = r.timeoutMs := by
  refine ⟨?_, ?_, ?_, ?_, ?_⟩
  · apply BitVec.eq_of_getLsbD_eq
    intro i hi
    simp [packCfg_getLsbD, hi]
  · rw [packCfg_getLsbD]; simp
  · rw [packCfg_getLsbD]; simp
  · apply BitVec.eq_of_getLsbD_eq
    intro i hi
    have h1 : ¬10 + i < 8 := by omega
    have h2 : ¬10 + i - 8 < 1 := by omega
    have h3 : ¬10 + i - 8 - 1 < 1 := by omega
    have h4 : 10 + i - 8 - 1 - 1 < 6 := by omega
    simp [packCfg_getLsbD, h1, h2, h3, h4]
  · apply BitVec.eq_of_getLsbD_eq
    intro i hi
    have h1 : ¬16 + i < 8 := by omega
    have h2 : ¬16 + i - 8 < 1 := by omega
    have h3 : ¬16 + i - 8 - 1 < 1 := by omega
    have h4 : ¬16 + i - 8 - 1 - 1 < 6 := by omega
    have h5 : 16 + i - 8 - 1 - 1 - 6 = i := by omega
    simp [packCfg_getLsbD, hi, h1, h2, h3, h4, h5]

/-- There is no register from index 12 on (R10). -/
theorem readPort_eq_none {s : State} {i : Nat} (h : 12 ≤ i) : readPort s i = none := by
  rw [Option.eq_none_iff_forall_not_mem]
  intro v hv
  have := (readPort_isSome_iff s i).mp ⟨v, hv⟩
  omega

end Sys2Proof.Machine

namespace Sys2Proof.Proofs

open Sys2Proof.Machine Sys2Proof.Claims

/-- Settles O54: a register is read zero-extended; STATUS and the two configuration records are read packed. -/
theorem readPortShowsEveryRegister : Obligations.ReadPortShowsEveryRegister := by
  intro s
  refine ⟨?_, ?_, fun i hi => readPort_eq_none hi⟩
  · rintro i n (⟨rfl, rfl⟩ | ⟨rfl, rfl⟩ | ⟨rfl, rfl⟩ | ⟨rfl, he, rfl⟩ | ⟨rfl, rfl⟩ | ⟨rfl, rfl⟩ | ⟨rfl, rfl⟩ | ⟨rfl, rfl⟩ |
      ⟨rfl, rfl⟩ | ⟨rfl, rfl⟩)
    · exact ⟨_, rfl, BitVec.toNat_setWidth_of_le (by decide)⟩
    · exact ⟨_, rfl, (BitVec.toNat_setWidth_of_le (by decide)).trans (BitVec.toNat_ofBool s.z)⟩
    · exact ⟨_, rfl, pack_toNat s.status⟩
    · exact ⟨_, rfl, by rw [causeView, if_pos he]⟩
    · exact ⟨_, rfl, BitVec.toNat_setWidth_of_le (by decide)⟩
    · exact ⟨_, rfl, BitVec.toNat_setWidth_of_le (by decide)⟩
    · exact ⟨_, rfl, BitVec.toNat_setWidth_of_le (by decide)⟩
    · exact ⟨_, rfl, BitVec.toNat_setWidth_of_le (by decide)⟩
    · exact ⟨_, rfl, BitVec.toNat_setWidth_of_le (by decide)⟩
    · exact ⟨_, rfl, BitVec.toNat_setWidth_of_le (by decide)⟩
  · rintro i r (⟨rfl, rfl⟩ | ⟨rfl, rfl⟩)
    · exact ⟨_, rfl, packCfg_fields s.cfg⟩
    · exact ⟨_, rfl, packCfg_fields s.cfgs⟩

end Sys2Proof.Proofs

/-! ### The host's byte accesses -/

namespace Sys2Proof.Machine

/-- After a store the byte stored reads there, and every other byte of both buffers reads as before (R40, R41). -/
theorem readByte_storeByte (sp sq : Space) (a x : Half) (v : Byte) (s : State) :
    readByte (storeByte sp a v s) sq x = if sq = sp ∧ x = a then v else readByte s sq x := by
  have hx : x.toNat = a.toNat ↔ x = a := BitVec.toNat_inj
  cases sp <;> cases sq <;> simp only [storeByte, readByte, State.buf, Memory.find_put, hx] <;> by_cases h : x = a <;> simp [h]

/-- A store changes nothing but the two buffers. -/
theorem storeByte_frame (sp : Space) (a : Half) (v : Byte) (s : State) :
    { storeByte sp a v s with obuf := s.obuf, ibuf := s.ibuf } = s := by cases sp <;> rfl

end Sys2Proof.Machine

namespace Sys2Proof.Proofs

open Sys2Proof.Machine Sys2Proof.Claims

/-- Settles O56: a store is `storeByte`, a load only adds to the record of reads. -/
theorem hostAccessesOneByte : Obligations.HostAccessesOneByte := by
  intro s a sp rest
  refine ⟨fun v hb hi => ⟨_, step_of_inputOk hi hb, ?_, ?_⟩, fun hl hi => ?_⟩
  · exact fun sq x => readByte_storeByte sp sq a x v { s with inputs := rest }
  · exact storeByte_frame sp a v { s with inputs := rest }
  · have hok : InputOk s (.loadBuf sp a) := by
      cases sp with
      | obuf => trivial
      | ibuf =>
        have hb : s.busy = false := by simpa using hl
        exact hb
    exact step_of_inputOk hi hok

end Sys2Proof.Proofs

/-! ### The frame of the operations -/

namespace Sys2Proof.Machine

open Sys2Proof.Claims

theorem classOf_eq_compare {i : Instr} (h : classOf i = .compare) : ∃ imm8, i = .pecChk imm8 := by
  cases i with
  | pecChk imm8 => exact ⟨imm8, rfl⟩
  | _ => simp [classOf] at h

theorem classOf_eq_control {i : Instr} (h : classOf i = .control) : i = .abort := by
  cases i with
  | abort => rfl
  | _ => simp [classOf] at h

/-- ABORT lets ENGINE's turn come first between two attempts, cancels an outstanding request's operation, and when not BUSY
clears the report (R97; log entry 20). -/
theorem effectOf_abort_cases (s : State) :
    (engineReady s = true ∧ effectOf .abort s = presentNext (encode .abort) (issueNext s)) ∨
    (engineReady s = false ∧ s.busy = true ∧ effectOf .abort s = cancelOperation s) ∨
    (engineReady s = false ∧ s.busy = false ∧ effectOf .abort s = clearReport s) := by
  cases hr : engineReady s
  · cases hb : s.busy <;> simp [effectOf, hr, hb]
  · simp [effectOf, hr]

/-- ABORT's effect when ENGINE has no attempt to issue. -/
theorem effectOf_abort_of_not_ready {s : State} (h : engineReady s = false) :
    effectOf .abort s = cancelOperation s ∨ effectOf .abort s = clearReport s := by
  obtain ⟨hr, -⟩ | ⟨-, -, he⟩ | ⟨-, -, he⟩ := effectOf_abort_cases s
  · simp [h] at hr
  · exact .inl he
  · exact .inr he

/-- What ABORT keeps in every state (R97). -/
theorem effectOf_abort_frame (s : State) :
    (effectOf .abort s).cfg = s.cfg ∧ (effectOf .abort s).cfgs = s.cfgs ∧ (effectOf .abort s).base = s.base ∧
      (effectOf .abort s).len = s.len ∧ (effectOf .abort s).ilen = s.ilen ∧ (effectOf .abort s).z = s.z ∧
      (effectOf .abort s).off = s.off ∧ (effectOf .abort s).rem = s.rem := by
  obtain ⟨-, he⟩ | ⟨-, -, he⟩ | ⟨-, -, he⟩ := effectOf_abort_cases s <;> simp [he]

section
variable {i : Instr} (s : State)

theorem effectOf_cfg (h : classOf i ≠ .config) : (effectOf i s).cfg = s.cfg := by
  cases i with
  | abort => simp [effectOf_abort_frame]
  | _ => simp [classOf, effectOf] at h ⊢

theorem effectOf_base (h : classOf i ≠ .setBase) : (effectOf i s).base = s.base := by
  cases i with
  | abort => simp [effectOf_abort_frame]
  | _ => simp [classOf, effectOf] at h ⊢

theorem effectOf_len (h : classOf i ≠ .setLen) : (effectOf i s).len = s.len := by
  cases i with
  | abort => simp [effectOf_abort_frame]
  | _ => simp [classOf, effectOf] at h ⊢

theorem effectOf_ilen (h : classOf i ≠ .setIlen) : (effectOf i s).ilen = s.ilen := by
  cases i with
  | abort => simp [effectOf_abort_frame]
  | _ => simp [classOf, effectOf] at h ⊢

theorem effectOf_z (h : classOf i ≠ .compare) : (effectOf i s).z = s.z := by
  cases i with
  | abort => simp [effectOf_abort_frame]
  | _ => simp [classOf, effectOf] at h ⊢

theorem effectOf_off (h : classOf i ≠ .chunked) : (effectOf i s).off = s.off := by
  cases i with
  | abort => simp [effectOf_abort_frame]
  | _ => simp [classOf, effectOf] at h ⊢

theorem effectOf_rem (h : classOf i ≠ .chunked) : (effectOf i s).rem = s.rem := by
  cases i with
  | abort => simp [effectOf_abort_frame]
  | _ => simp [classOf, effectOf] at h ⊢

theorem effectOf_cfgs (hr : classOf i ≠ .raw) (hc : classOf i ≠ .chunked) : (effectOf i s).cfgs = s.cfgs := by
  cases i with
  | abort => simp [effectOf_abort_frame]
  | _ => simp [classOf, effectOf] at hr hc ⊢

theorem effectOf_trace (h : classOf i ≠ .control) : (effectOf i s).trace = s.trace := by
  cases i <;> simp [classOf, effectOf] at h ⊢

/-- Only the transaction operations and ABORT write STATUS, SEQ and the transaction buffers. -/
theorem effectOf_sequencing (hr : classOf i ≠ .raw) (hc : classOf i ≠ .chunked) (ha : classOf i ≠ .control) :
    (effectOf i s).status = s.status ∧ (effectOf i s).seq = s.seq ∧ (effectOf i s).scratch = s.scratch := by
  cases i <;> simp [classOf, effectOf] at hr hc ha ⊢

/-- No acceptance writes RETRY or the schedule; ABORT between two attempts lets ENGINE's turn do so. -/
theorem effectOf_retry_inputs (h : classOf i ≠ .control ∨ engineReady s = false) :
    (effectOf i s).retry = s.retry ∧ (effectOf i s).inputs = s.inputs := by
  cases i with
  | abort => obtain he | he := effectOf_abort_of_not_ready (h.resolve_left (· rfl)) <;> simp [he]
  | _ => simp [effectOf]

theorem effectOf_crc (hc : classOf i ≠ .accumulate) (h : classOf i ≠ .control ∨ engineReady s = false) :
    (effectOf i s).crc = s.crc := by
  cases i with
  | abort => obtain he | he := effectOf_abort_of_not_ready (h.resolve_left (· rfl)) <;> simp [he]
  | _ => simp [classOf, effectOf] at hc ⊢

end

/-- Acceptance of a transaction operation takes the snapshot (R14). -/
theorem effectOf_cfgs_of_transaction {i : Instr} (s : State) (h : classOf i = .raw ∨ classOf i = .chunked) :
    (effectOf i s).cfgs = s.cfg := by
  cases i with
  | xfW => rcases startRawWrite_cases s with ⟨-, hs⟩ | ⟨-, hs⟩ <;> simp [effectOf, hs]
  | xfWr => rcases startRawRead_cases s with ⟨-, -, hs⟩ | ⟨-, hs⟩ <;> simp [effectOf, hs]
  | dfWr => simp [effectOf, startChunkedWrite]
  | dfRd => simp only [effectOf, startChunkedRead]; split <;> simp
  | _ => simp [classOf] at h

end Sys2Proof.Machine

namespace Sys2Proof.Proofs

open Sys2Proof.Machine Sys2Proof.Claims

/-- Between two attempts ABORT changes what ENGINE's turn changes, and its word waits (log entry 20). -/
theorem engineTurn_of_abort {s : State} (hr : engineReady s = true) :
    step { s with inputs := [.engine] } = .next { effectOf .abort s with inputs := [] } := by
  have he : effectOf .abort s = presentNext (encode .abort) (issueNext s) := by simp [effectOf, hr]
  rw [step_engine s [] hr, issueNext_withInputs, he]
  rfl

/-- Settles O26: `effectOf` is the next state, and each of its fields has its frame by the operation's class. -/
theorem operationFrame : Obligations.OperationFrame := by
  intro i s t h
  obtain ⟨-, rfl⟩ := exec_next h
  refine ⟨effectOf_params i s, effectOf_cause i s, effectOf_reads i s, effectOf_drawn i s, fun sp a => ?_, effectOf_obuf i s,
    effectOf_ibuf i s, effectOf_cfg s, effectOf_base s, effectOf_len s, effectOf_ilen s, effectOf_z s, effectOf_trace s,
    fun hc => ⟨effectOf_off s hc, effectOf_rem s hc⟩, fun ⟨hr, hc⟩ => effectOf_cfgs s hr hc,
    fun ⟨hr, hc, ha⟩ => effectOf_sequencing s hr hc ha, effectOf_retry_inputs s, effectOf_crc s, fun hc hr => ?_⟩
  · cases sp <;> simp [readByte, State.buf]
  · rw [classOf_eq_control hc]
    exact engineTurn_of_abort hr

end Sys2Proof.Proofs

/-! ### What a turn writes -/

namespace Sys2Proof.Machine

open Sys2Proof.Claims

/-- An answer is not an attempt's failure only if it brought bytes. -/
theorem ok_of_failureOf_none {s : State} {o : BusOutcome} (h : failureOf s o = none) : ∃ data, o = .ok data := by
  cases o with
  | ok data => exact ⟨data, rfl⟩
  | busError c => simp [failureOf] at h
  | timeout => simp [failureOf] at h

/-- An attempt whose in-frame `CheckR` does not verify leaves CRC and Z. -/
theorem answered_of_unchecked {s : State} (o : BusOutcome) (h : ¬checksRead s = true) :
    (answered o s).crc = s.crc ∧ (answered o s).z = s.z := by
  cases o with
  | ok data =>
    simp only [answered, receive, afterCheck]
    split
    · exact absurd ‹_› h
    · exact ⟨rfl, rfl⟩
  | busError c => exact ⟨if_neg h, rfl⟩
  | timeout => exact ⟨if_neg h, rfl⟩

/-- Only `CheckR` on an answer writes Z (R12, R141). -/
theorem completeAttempt_z_of_ne {o : BusOutcome} {s : State} (h : (completeAttempt o s).z ≠ s.z) :
    ∃ data, o = .ok data ∧ checksRead s = true := by
  have hz : (completeAttempt o s).z = (answered o s).z := by
    rcases completeAttempt_cases o s with ⟨-, h⟩ | ⟨f, -, h⟩ <;> simp [h]
  rw [hz] at h
  cases o with
  | ok data =>
    by_contra hc
    exact h (answered_of_unchecked _ fun hr => hc ⟨data, rfl, hr⟩).2
  | busError c => exact absurd rfl h
  | timeout => exact absurd rfl h

/-- CAUSE is written when a bus fault ends the operation (R16, R200). -/
theorem completeAttempt_cause_of_ne {o : BusOutcome} {s : State} (h : (completeAttempt o s).cause ≠ s.cause) :
    ∃ c, o = .busError c ∧ (completeAttempt o s).cause = c ∧
      (completeAttempt o s).status = { state := .err, err := .communication } := by
  obtain ⟨-, hs⟩ | ⟨f, hf, hs⟩ := completeAttempt_cases o s
  · simp [hs] at h
  · rw [hs] at h ⊢
    obtain ⟨-, ha⟩ | ⟨-, ha⟩ := afterFailure_cases f (answered o s)
    · rw [ha] at h ⊢
      obtain ⟨c, rfl, rfl⟩ | ⟨rfl, rfl⟩ | ⟨inp, rfl, rfl, -⟩ := failureOf_cases hf
      · exact ⟨c, rfl, rfl, rfl⟩
      · simp [Failure.raised, Raised.causeAfter] at h
      · simp [Failure.raised, Raised.causeAfter] at h
    · simp [ha] at h

section
variable {data : List Byte} {s : State}

theorem afterSuccess_none (h : s.seq.opk = .none) : afterSuccess data s = s := by simp [afterSuccess, h]

theorem afterSuccess_xfw (h : s.seq.opk = .xfw) : afterSuccess data s = finish s := by simp [afterSuccess, h]

theorem afterSuccess_xfwr (h : s.seq.opk = .xfwr) :
    afterSuccess data s = finish { s with ibuf := memWrite s.ibuf 0#16 data } := by simp [afterSuccess, h]

theorem afterSuccess_dfwr (h : s.seq.opk = .dfwr) :
    afterSuccess data s = continueLoop (advanceProgress (chunkSize s) s) := by simp [afterSuccess, h]

theorem afterSuccess_block (h : s.seq.opk = .dfrd) (hg : s.seq.stage = .blk) :
    afterSuccess data s = continueLoop (storeChunk data s) := by simp [afterSuccess, h, hg]

theorem afterSuccess_select (h : s.seq.opk = .dfrd) (hg : s.seq.stage ≠ .blk) :
    afterSuccess data s = continueLoop { s with seq := { s.seq with stage := .blk } } := by
  cases hs : s.seq.stage with
  | blk => exact absurd hs hg
  | none => simp [afterSuccess, h, hs]
  | sel => simp [afterSuccess, h, hs]

end

/-- After a success IBUF changes only for XF.WR and a block read (R41, R146, R179). -/
theorem afterSuccess_ibuf_of_ne {data : List Byte} {s : State} (h : (afterSuccess data s).ibuf ≠ s.ibuf) :
    s.seq.opk = .xfwr ∨ (s.seq.opk = .dfrd ∧ s.seq.stage = .blk) := by
  cases hk : s.seq.opk with
  | xfwr => exact .inl rfl
  | dfrd =>
    by_cases hg : s.seq.stage = .blk
    · exact .inr ⟨rfl, hg⟩
    · simp [afterSuccess_select hk hg] at h
  | none => simp [afterSuccess_none hk] at h
  | xfw => simp [afterSuccess_xfw hk] at h
  | dfwr => simp [afterSuccess_dfwr hk] at h

/-- An answer changes IBUF only if its attempt succeeded, and then only for XF.WR and a block read (R142). -/
theorem completeAttempt_ibuf_of_ne {o : BusOutcome} {s : State} (h : (completeAttempt o s).ibuf ≠ s.ibuf) :
    failureOf s o = none ∧ (s.seq.opk = .xfwr ∨ (s.seq.opk = .dfrd ∧ s.seq.stage = .blk)) := by
  obtain ⟨hf, hs⟩ | ⟨f, -, hs⟩ := completeAttempt_cases o s
  · rw [hs] at h
    exact ⟨hf, by simpa using afterSuccess_ibuf_of_ne (s := releaseBuffers (answered o s)) (by simpa using h)⟩
  · simp [hs] at h

section
variable (sp : Space) (a : Half) (v : Byte) (s : State)
@[simp] theorem storeByte_z : (storeByte sp a v s).z = s.z := by cases sp <;> rfl
@[simp] theorem storeByte_status : (storeByte sp a v s).status = s.status := by cases sp <;> rfl
@[simp] theorem storeByte_cause : (storeByte sp a v s).cause = s.cause := by cases sp <;> rfl
@[simp] theorem storeByte_seq : (storeByte sp a v s).seq = s.seq := by cases sp <;> rfl
@[simp] theorem storeByte_scratch : (storeByte sp a v s).scratch = s.scratch := by cases sp <;> rfl
@[simp] theorem storeByte_trace : (storeByte sp a v s).trace = s.trace := by cases sp <;> rfl
end

@[simp] theorem resetBlock_obuf (s : State) : (resetBlock s).obuf = s.obuf := abandonRequest_obuf s

@[simp] theorem resetBlock_ibuf (s : State) : (resetBlock s).ibuf = s.ibuf := abandonRequest_ibuf s

/-- The turns that write Z (R12). -/
theorem turnEffect_z_of_ne {i : Input} {s : State} (h : (turnEffect i s).z ≠ s.z) :
    (∃ w imm8, i = .command w ∧ decode w = .ok (.pecChk imm8)) ∨
    (∃ data, i = .busAnswer (.ok data) ∧ checksRead s = true) ∨ i = .reset := by
  cases i with
  | command w =>
    obtain ⟨j, hd, he⟩ | ⟨e, hd, he⟩ := turnEffect_command_cases w s
    · rw [he] at h
      obtain ⟨imm8, rfl⟩ := classOf_eq_compare (not_imp_comm.mp (effectOf_z s) h)
      exact .inl ⟨w, imm8, rfl, hd⟩
    · simp [he] at h
  | busAnswer o =>
    obtain ⟨data, rfl, hc⟩ := completeAttempt_z_of_ne h
    exact .inr (.inl ⟨data, rfl, hc⟩)
  | reset => exact .inr (.inr rfl)
  | _ => simp [turnEffect] at h

/-- The turns that write CAUSE (R16). -/
theorem turnEffect_cause_of_ne {i : Input} {s : State} (h : (turnEffect i s).cause ≠ s.cause) :
    (∃ c, i = .busAnswer (.busError c) ∧ (turnEffect i s).cause = c ∧
      (turnEffect i s).status = { state := .err, err := .communication }) ∨ i = .reset := by
  cases i with
  | command w =>
    obtain ⟨j, -, he⟩ | ⟨e, -, he⟩ := turnEffect_command_cases w s <;> simp [he] at h
  | busAnswer o =>
    obtain ⟨c, rfl, hc, hs⟩ := completeAttempt_cause_of_ne h
    exact .inl ⟨c, rfl, hc, hs⟩
  | reset => exact .inr rfl
  | _ => simp [turnEffect] at h

/-- The turn that writes OBUF (R40). -/
theorem turnEffect_obuf_of_ne {i : Input} {s : State} (h : (turnEffect i s).obuf ≠ s.obuf) :
    ∃ a v, i = .storeBuf .obuf a v := by
  cases i with
  | storeBuf sp a v =>
    cases sp with
    | obuf => exact ⟨a, v, rfl⟩
    | ibuf => exact absurd rfl h
  | command w =>
    obtain ⟨j, -, he⟩ | ⟨e, -, he⟩ := turnEffect_command_cases w s <;> simp [he] at h
  | _ => simp [turnEffect] at h

/-- The turns that write IBUF (R41, R142). -/
theorem turnEffect_ibuf_of_ne {i : Input} {s : State} (h : (turnEffect i s).ibuf ≠ s.ibuf) :
    (∃ a v, i = .storeBuf .ibuf a v) ∨
    (∃ data, i = .busAnswer (.ok data) ∧ failureOf s (.ok data) = none ∧
      (s.seq.opk = .xfwr ∨ (s.seq.opk = .dfrd ∧ s.seq.stage = .blk))) := by
  cases i with
  | storeBuf sp a v =>
    cases sp with
    | ibuf => exact .inl ⟨a, v, rfl⟩
    | obuf => exact absurd rfl h
  | busAnswer o =>
    obtain ⟨hf, hk⟩ := completeAttempt_ibuf_of_ne h
    obtain ⟨data, rfl⟩ := ok_of_failureOf_none hf
    exact .inr ⟨data, rfl, hf, hk⟩
  | command w =>
    obtain ⟨j, -, he⟩ | ⟨e, -, he⟩ := turnEffect_command_cases w s <;> simp [he] at h
  | _ => simp [turnEffect] at h

end Sys2Proof.Machine

namespace Sys2Proof.Proofs

open Sys2Proof.Machine Sys2Proof.Claims

/-- A step that changes a field which ENGINE's s1 keeps is the effect of a scheduled turn. -/
theorem step_turn_of_ne {α : Type} {f : State → α} {s t : State} (hf : ∀ u, f (issueNext u) = f u) (h : step s = .next t)
    (hne : f t ≠ f s) : ∃ i rest, s.inputs = i :: rest ∧ InputOk s i ∧ t = turnEffect i { s with inputs := rest } := by
  obtain ⟨-, rfl | ⟨-, rfl⟩⟩ | ht := step_next h
  · exact absurd rfl hne
  · exact absurd (hf s) hne
  · exact ht

/-- Settles O46: of the turns only a word PEC.CHK, a checked answer and reset write Z. -/
theorem matchFlagWriters : Obligations.MatchFlagWriters := by
  intro s t h hz
  obtain ⟨i, rest, hi, -, rfl⟩ := step_turn_of_ne (f := State.z) issueNext_z h hz
  obtain ⟨w, imm8, rfl, hd⟩ | ⟨data, rfl, hc⟩ | rfl := turnEffect_z_of_ne hz
  · exact .inl ⟨w, rest, imm8, hi, hd⟩
  · obtain ⟨hk, hp⟩ := (checksRead_iff _).mp hc
    exact .inr (.inl ⟨data, rest, hi, hp, hk⟩)
  · exact .inr (.inr ⟨rest, hi⟩)

/-- Settles O47: of the turns only a BusError that ends the operation, and reset, write CAUSE. -/
theorem causeWriters : Obligations.CauseWriters := by
  intro s t h hc
  obtain ⟨i, rest, hi, -, rfl⟩ := step_turn_of_ne (f := State.cause) issueNext_cause h hc
  obtain ⟨c, rfl, hc', hs⟩ | rfl := turnEffect_cause_of_ne hc
  · exact .inl ⟨c, rest, hi, hc', hs⟩
  · exact .inr ⟨rest, hi⟩

/-- Settles O48: of the turns only the host's store writes OBUF, and only it and a passing read answer write IBUF. -/
theorem bufferWriters : Obligations.BufferWriters := by
  intro s t h
  constructor
  · intro ho
    obtain ⟨i, rest, hi, hok, rfl⟩ := step_turn_of_ne (f := State.obuf) issueNext_obuf h ho
    obtain ⟨a, v, rfl⟩ := turnEffect_obuf_of_ne ho
    exact ⟨a, v, rest, hi, hok⟩
  · intro hb
    obtain ⟨i, rest, hi, hok, rfl⟩ := step_turn_of_ne (f := State.ibuf) issueNext_ibuf h hb
    obtain ⟨a, v, rfl⟩ | ⟨data, rfl, hf, hk⟩ := turnEffect_ibuf_of_ne hb
    · exact .inl ⟨a, v, rest, hi, hok⟩
    · exact .inr ⟨data, rest, hi, (passingAnswer_iff s _).mpr ⟨hok, hf⟩, hk⟩

end Sys2Proof.Proofs

/-! ### The parts of the invariant -/

namespace Sys2Proof.Machine

open Sys2Proof.Claims

/-- No event of the list is an outstanding request. -/
def Settled (l : List Event) : Prop := ∀ e ∈ l, e.isPending = false

/-- An outstanding request that gets its outcome leaves none outstanding (R54). -/
theorem settled_settleNewest {o : EventOutcome} {l : List Event} (ho : o ≠ .pending) (h : Settled l.tail) :
    Settled (settleNewest o l) := by
  cases l with
  | nil => exact h
  | cons e l => exact List.forall_mem_cons.mpr ⟨settle_isPending o ho e, h⟩

theorem shown_ne_pending (o : BusOutcome) : o.shown ≠ .pending := by
  cases o <;> simp [BusOutcome.shown]

/-- The invariant of the operation that runs, if one does: what an attempt's issue and its answer do not touch. -/
structure OperationOk (s : State) : Prop where
  status : StatusOk s
  cause : CauseOk s
  busyIffRunning : s.status.state = .busy ↔ s.seq.opk ≠ .none
  stageIffRead : s.seq.stage ≠ .none ↔ s.seq.opk = .dfrd
  rawWriteFits : s.seq.opk = .xfw → rawWriteFits s = true
  rawReadFits : s.seq.opk = .xfwr → rawReadFits s = true
  progress : ProgressOk s
  memory : MemoryOk s

theorem Inv.operation {s : State} (h : Inv s) : OperationOk s where
  status := h.status
  cause := h.cause
  busyIffRunning := h.seq.busyIffRunning
  stageIffRead := h.seq.stageIffRead
  rawWriteFits := h.buffers.rawWriteFits
  rawReadFits := h.buffers.rawReadFits
  progress := h.progress
  memory := h.memory

/-- The operation's invariant at the same report, sequencing and sizes, with progress and buffers of its own. -/
theorem OperationOk.of_progress {s t : State} (h : OperationOk s) (progress : ProgressOk t) (memory : MemoryOk t)
    (params : t.params = s.params := by simp) (status : t.status = s.status := by simp)
    (cause : t.cause = s.cause := by simp) (opk : t.seq.opk = s.seq.opk := by simp)
    (stage : t.seq.stage = s.seq.stage := by simp) (cfgs : t.cfgs = s.cfgs := by simp)
    (len : t.len = s.len := by simp) (ilen : t.ilen = s.ilen := by simp) : OperationOk t where
  status := ⟨by rw [status]; exact h.status.errIffErr, by rw [status]; exact h.status.neverDeviceReported⟩
  cause := by rw [CauseOk, params, cause]; exact h.cause
  busyIffRunning := by rw [status, opk]; exact h.busyIffRunning
  stageIffRead := by rw [stage, opk]; exact h.stageIffRead
  rawWriteFits := by simpa [opk, len, cfgs] using h.rawWriteFits
  rawReadFits := by simpa [opk, len, ilen, cfgs] using h.rawReadFits
  progress := progress
  memory := memory

/-- The fields the operation's invariant speaks of. -/
theorem OperationOk.of_same {s t : State} (h : OperationOk s) (params : t.params = s.params := by simp)
    (status : t.status = s.status := by simp) (cause : t.cause = s.cause := by simp)
    (opk : t.seq.opk = s.seq.opk := by simp) (stage : t.seq.stage = s.seq.stage := by simp)
    (cfgs : t.cfgs = s.cfgs := by simp) (len : t.len = s.len := by simp) (ilen : t.ilen = s.ilen := by simp)
    (off : t.off = s.off := by simp) (rem : t.rem = s.rem := by simp) (obuf : t.obuf = s.obuf := by simp)
    (ibuf : t.ibuf = s.ibuf := by simp) : OperationOk t := by
  obtain ⟨total, aligned, remains, selectFirst⟩ := h.progress
  refine h.of_progress ?_ ⟨by rw [obuf]; exact h.memory.obuf, by rw [ibuf]; exact h.memory.ibuf⟩ params status cause opk
    stage cfgs len ilen
  constructor <;> simpa only [opk, stage, off, rem, len]

/-- With no request outstanding the invariant is the operation's, with empty buffers and a settled trace. -/
theorem inv_of_idle {s : State} (hp : s.seq.phase = .idle) (ho : OperationOk s) (hs : s.scratch = Scratch.empty)
    (ht : Settled s.trace) : Inv s where
  status := ho.status
  cause := ho.cause
  seq := ⟨ho.busyIffRunning, fun h => absurd hp h, ho.stageIffRead⟩
  buffers :=
    { txbFits := by simp [hs, Scratch.empty]
      rxbFits := by simp [hs, Scratch.empty]
      requestFits := by simp [requestedBytes, hs, Scratch.empty]
      rawWriteFits := ho.rawWriteFits
      rawReadFits := ho.rawReadFits
      idleEmpty := fun _ => hs
      callDetermined := fun h => absurd hp h
      txbIsFrame := fun h => absurd hp h
      crcIsPec := fun h => absurd hp h
      crcIsCleared := fun h => by simp [hp] at h }
  progress := ho.progress
  retry := fun h => absurd hp h
  trace := ⟨fun h => by simp [hp] at h, fun h => by simp [hp] at h, by simpa [hp, Settled] using ht⟩
  memory := ho.memory

/-- Between operations the invariant is that of STATUS, CAUSE and the host's buffers. -/
theorem inv_of_rest {s : State} (hseq : s.seq = Seq.idle) (hb : s.status.state ≠ .busy) (hs : s.scratch = Scratch.empty)
    (status : StatusOk s) (cause : CauseOk s) (memory : MemoryOk s) (ht : Settled s.trace) : Inv s :=
  inv_of_idle (by rw [hseq]; rfl)
    { status, cause, memory
      busyIffRunning := by simp [hseq, Seq.idle, hb]
      stageIffRead := by simp [hseq, Seq.idle]
      rawWriteFits := by simp [hseq, Seq.idle]
      rawReadFits := by simp [hseq, Seq.idle]
      progress := by constructor <;> simp [hseq, Seq.idle] }
    hs ht

section
variable {s : State} (h : Inv s)
include h

theorem Inv.busy_of_waiting (hp : s.seq.phase ≠ .idle) : s.status.state = .busy := h.seq.waitingIsBusy hp

/-- Between operations SEQ is (NONE, -, IDLE) (R26). -/
theorem Inv.seq_of_not_busy (hb : s.status.state ≠ .busy) : s.seq = Seq.idle := by
  have hk : s.seq.opk = .none := not_not.mp fun hk => hb (h.seq.busyIffRunning.mpr hk)
  have hg : s.seq.stage = .none := not_not.mp fun hg => by simp [h.seq.stageIffRead.mp hg] at hk
  have hp : s.seq.phase = .idle := not_not.mp fun hp => hb (h.seq.waitingIsBusy hp)
  cases hs : s.seq
  simp_all [Seq.idle]

theorem Inv.settled_of_idle (hp : s.seq.phase = .idle) : Settled s.trace := by
  simpa [hp, Settled] using h.trace.settled

theorem Inv.settled_of_backoff (hp : s.seq.phase = .backoff) : Settled s.trace := by
  simpa [hp, Settled] using h.trace.settled

theorem Inv.settled_tail (hp : s.seq.phase = .attempt) : Settled s.trace.tail := by
  simpa [hp, Settled] using h.trace.settled

/-- A step that touches neither the block's registers nor its sequencing keeps the invariant. -/
theorem Inv.of_same {t : State} (params : t.params = s.params := by simp)
    (crc : t.crc = s.crc := by simp)
    (status : t.status = s.status := by simp) (cause : t.cause = s.cause := by simp)
    (seq : t.seq = s.seq := by simp) (scratch : t.scratch = s.scratch := by simp)
    (cfgs : t.cfgs = s.cfgs := by simp) (base : t.base = s.base := by simp)
    (len : t.len = s.len := by simp) (ilen : t.ilen = s.ilen := by simp)
    (off : t.off = s.off := by simp) (rem : t.rem = s.rem := by simp) (retry : t.retry = s.retry := by simp)
    (obuf : t.obuf = s.obuf := by simp) (ibuf : t.ibuf = s.ibuf := by simp)
    (trace : t.trace = s.trace := by simp) : Inv t := by
  have ho : OperationOk t :=
    h.operation.of_same params status cause (by rw [seq]) (by rw [seq]) cfgs len ilen off rem obuf ibuf
  have hc : callOf t = callOf s := callOf_congr (by rw [seq]) (by rw [seq]) params base len ilen off rem obuf
  have hf : frameOf t = frameOf s := frameOf_congr (by rw [scratch]) cfgs params
  have hq : requestedBytes t = requestedBytes s := requestedBytes_congr (by rw [scratch]) cfgs
  have he : requestEvent t = requestEvent s := by simp [requestEvent, scratch, hq]
  exact
    { status := ho.status
      cause := ho.cause
      seq := ⟨ho.busyIffRunning, by rw [seq, status]; exact h.seq.waitingIsBusy, ho.stageIffRead⟩
      buffers :=
        { txbFits := by rw [scratch]; exact h.buffers.txbFits
          rxbFits := by rw [scratch]; exact h.buffers.rxbFits
          requestFits := by rw [hq]; exact h.buffers.requestFits
          rawWriteFits := ho.rawWriteFits
          rawReadFits := ho.rawReadFits
          idleEmpty := by rw [seq, scratch]; exact h.buffers.idleEmpty
          callDetermined := by rw [seq, scratch, hc]; exact h.buffers.callDetermined
          txbIsFrame := by rw [seq, scratch, hf]; exact h.buffers.txbIsFrame
          crcIsPec := by rw [seq, scratch, cfgs, crc, params]; exact h.buffers.crcIsPec
          crcIsCleared := by rw [seq, checksRead, scratch, cfgs, crc]; exact h.buffers.crcIsCleared }
      progress := ho.progress
      retry := by rw [RetryOk, seq, retry, cfgs]; exact h.retry
      trace :=
        ⟨by rw [seq, trace, he]; exact h.trace.attempt, by rw [seq, trace, params]; exact h.trace.backoff,
          by rw [seq, trace]; exact h.trace.settled⟩
      memory := ho.memory }

end

/-! ### The frames fit -/

/-- A write transaction's frame fits TXB with its PEC byte (R24, R145). -/
theorem OperationOk.callOf_write_fits {s : State} (h : OperationOk s) (hk : (callOf s).kind = .w) :
    (callOf s).out.length + s.cfgs.pecOnWrite.toNat ≤ 37 := by
  have hb := Bool.toNat_le s.cfgs.pecOnWrite
  have hn := chunkSize_le s
  cases ho : s.seq.opk with
  | none => simp [callOf, ho, Scratch.empty]; omega
  | xfw => simpa [callOf, ho] using h.rawWriteFits ho
  | xfwr => simp [callOf, ho] at hk
  | dfwr => simp [callOf, ho, chunkFrame, macFrame, addressBytes]; omega
  | dfrd =>
    cases hg : s.seq.stage with
    | blk => simp [callOf, ho, hg] at hk
    | none => simp [callOf, ho, hg, selectFrame, macFrame, addressBytes]; omega
    | sel => simp [callOf, ho, hg, selectFrame, macFrame, addressBytes]; omega

/-- A block read asks for at most 35 bytes before its PEC byte (R24, R67). -/
theorem blockReadBytes_le (s : State) : blockReadBytes s ≤ 35 := by
  have hn := chunkSize_le s
  simp only [blockReadBytes, prefixBytes, Config.addrBytes, Config.chunkMax]
  split <;> omega

/-- A write-then-read's two frames fit TXB and RXB with the PEC byte (R24, R146). -/
theorem OperationOk.callOf_read_fits {s : State} (h : OperationOk s) (hk : (callOf s).kind = .wr) :
    (callOf s).out.length ≤ 37 ∧ (callOf s).nin + s.cfgs.pecOnRead.toNat ≤ 36 := by
  cases ho : s.seq.opk with
  | xfwr => simpa [callOf, ho] using h.rawReadFits ho
  | dfrd =>
    cases hg : s.seq.stage with
    | blk =>
      have hb := Bool.toNat_le s.cfgs.pecOnRead
      have hn := blockReadBytes_le s
      simp [callOf, ho, hg, blockReadFrame]; omega
    | none => simp [callOf, ho, hg] at hk
    | sel => simp [callOf, ho, hg] at hk
  | none => simp [callOf, ho, Scratch.empty] at hk
  | xfw => simp [callOf, ho] at hk
  | dfwr => simp [callOf, ho] at hk

theorem buildFrame_length (s : State) (out : List Byte) :
    (buildFrame s out).length = out.length + s.cfgs.pecOnWrite.toNat := by
  unfold buildFrame
  cases s.cfgs.pecOnWrite <;> simp

theorem OperationOk.frameOf_fits {s : State} (h : OperationOk s) (hc : s.scratch.call = callOf s) :
    (frameOf s).length ≤ 37 := by
  unfold frameOf
  cases hk : s.scratch.call.kind with
  | w => simpa [buildFrame_length, hc] using h.callOf_write_fits (by rw [← hc, hk])
  | wr => simpa [hc] using (h.callOf_read_fits (by rw [← hc, hk])).1

theorem OperationOk.request_fits {s : State} (h : OperationOk s) (hc : s.scratch.call = callOf s) :
    requestedBytes s ≤ 36 := by
  unfold requestedBytes
  cases hk : s.scratch.call.kind with
  | w => simp
  | wr => simpa [hc] using (h.callOf_read_fits (by rw [← hc, hk])).2

/-! ### The engine's moves keep the invariant -/

/-- An attempt of the running operation's call is issued. -/
theorem inv_issueAttempt {s : State} (ho : OperationOk s) (hb : s.status.state = .busy)
    (hc : s.scratch.call = callOf s) (hr : s.retry.toNat ≤ s.cfgs.maxRetries.toNat) (ht : Settled s.trace) :
    Inv (issueAttempt s) := by
  have ho' : OperationOk (issueAttempt s) := ho.of_same
  have hf : frameOf (issueAttempt s) = frameOf s := frameOf_congr (by simp) (by simp) (by simp)
  have hq : requestedBytes (issueAttempt s) = requestedBytes s := requestedBytes_congr (by simp) (by simp)
  have hcall : callOf (issueAttempt s) = callOf s :=
    callOf_congr (by simp) (by simp) (by simp) (by simp) (by simp) (by simp) (by simp) (by simp) (by simp)
  exact
    { status := ho'.status
      cause := ho'.cause
      seq := ⟨ho'.busyIffRunning, fun _ => by simpa using hb, ho'.stageIffRead⟩
      buffers :=
        { txbFits := by rw [issueAttempt_txb]; exact ho.frameOf_fits hc
          rxbFits := by simp
          requestFits := by rw [hq]; exact ho.request_fits hc
          rawWriteFits := ho'.rawWriteFits
          rawReadFits := ho'.rawReadFits
          idleEmpty := fun h => by simp at h
          callDetermined := fun _ => by simp [hc, hcall]
          txbIsFrame := fun _ => by simp [hf]
          crcIsPec := fun _ hk hp => by
            simp only [issueAttempt_call, issueAttempt_cfgs] at hk hp
            simp [issueAttempt_crc, hk, buildCrc, hp]
          crcIsCleared := fun _ hk => by
            simp only [checksRead_iff, issueAttempt_call, issueAttempt_cfgs] at hk
            simp [issueAttempt_crc, hk] }
      progress := ho'.progress
      retry := fun _ => by simpa using hr
      trace := ⟨fun _ => by simp [issueAttempt_trace], fun h => by simp at h, by simpa [issueAttempt_trace, Settled] using ht⟩
      memory := ho'.memory }

/-- ENGINE's turn s1 (R118). -/
theorem inv_issueNext {s : State} (h : Inv s) (hr : engineReady s = true) : Inv (issueNext s) := by
  obtain ⟨hb, hp⟩ := (engineReady_iff s).mp hr
  have hc : callOf { s with retry := s.cfgs.maxRetries, scratch := { Scratch.empty with call := callOf s } } = callOf s :=
    callOf_congr rfl rfl rfl rfl rfl rfl rfl rfl rfl
  exact inv_issueAttempt h.operation.of_same hb hc.symm le_rfl (h.settled_of_idle hp)

/-- The end of a backoff reissues the call (R118 s4, R120). -/
theorem inv_completeBackoff {s : State} (h : Inv s) (hp : s.seq.phase = .backoff) : Inv (completeBackoff s) := by
  have hw : s.seq.phase ≠ .idle := by simp [hp]
  have hc : callOf { s with seq := { s.seq with phase := .idle } } = callOf s :=
    callOf_congr rfl rfl rfl rfl rfl rfl rfl rfl rfl
  exact inv_issueAttempt h.operation.of_same (h.busy_of_waiting hw) ((h.buffers.callDetermined hw).trans hc.symm)
    (h.retry hw) (h.settled_of_backoff hp)

/-- An operation ends in success (R15, R26). -/
theorem inv_finish {s : State} (hc : CauseOk s) (hm : MemoryOk s) (ht : Settled s.trace) : Inv (finish s) :=
  inv_of_rest rfl (by simp) rfl ⟨by simp, by simp⟩ hc ⟨hm.obuf, hm.ibuf⟩ ht

/-- An operation ends in an error (R200). -/
theorem inv_raise {e : Raised} {s : State} (hc : s.params.isCause (e.causeAfter s.cause) = true) (hm : MemoryOk s)
    (ht : Settled s.trace) : Inv (raise e s) :=
  inv_of_rest rfl (by simp) rfl ⟨by cases e <;> simp [Raised.kind], by cases e <;> simp [Raised.kind]⟩ hc
    ⟨hm.obuf, hm.ibuf⟩ ht

/-- The loop's head ends the operation or leaves it waiting for s1. -/
theorem inv_continueLoop {s : State} (hc : CauseOk s) (hm : MemoryOk s) (ht : Settled s.trace) (h : s.rem ≠ 0#16 → Inv s) :
    Inv (continueLoop s) := by
  obtain ⟨-, he⟩ | ⟨hr, he⟩ := continueLoop_cases s <;> rw [he]
  · exact inv_finish hc hm ht
  · exact h hr

/-- A chunk counted keeps OFF + REM = LEN and, while bytes remain, the alignment (R21, R161). -/
theorem ProgressOk.advance {s : State} (h : ProgressOk s) (hk : s.seq.opk = .dfwr ∨ s.seq.opk = .dfrd)
    (hg : s.seq.stage ≠ .sel) (hr : (advanceProgress (chunkSize s) s).rem ≠ 0#16) :
    ProgressOk (advanceProgress (chunkSize s) s) := by
  have hlen := s.len.isLt
  have htot := h.total hk
  have hoff := advanceProgress_off_toNat s (by omega)
  have hrem := advanceProgress_rem_toNat s
  have hpos : (advanceProgress (chunkSize s) s).rem.toNat ≠ 0 := fun h0 => hr (BitVec.eq_of_toNat_eq h0)
  have hsize : chunkSize s = min 32 s.rem.toNat := rfl
  have hal : s.off.toNat % 32 = 0 := h.aligned hk
  exact
    { total := fun _ => by rw [hoff, hrem, advanceProgress_len]; omega
      aligned := fun _ => by rw [hoff, Config.chunkMax]; omega
      remains := fun _ => hr
      selectFirst := fun h => absurd h hg }

/-- A chunk of the running operation is counted and the loop goes on. -/
theorem inv_chunkDone {s : State} (h : Inv s) (hp : s.seq.phase = .idle) (hk : s.seq.opk = .dfwr ∨ s.seq.opk = .dfrd)
    (hg : s.seq.stage ≠ .sel) : Inv (continueLoop (advanceProgress (chunkSize s) s)) := by
  have ho := h.operation
  have ht := h.settled_of_idle hp
  refine inv_continueLoop ho.cause ⟨ho.memory.obuf, ho.memory.ibuf⟩ ht fun hr => ?_
  exact inv_of_idle hp (ho.of_progress (ho.progress.advance hk hg hr) ⟨ho.memory.obuf, ho.memory.ibuf⟩)
    (h.buffers.idleEmpty hp) ht

/-- DF.RD turns to its block reads (R175). -/
theorem inv_blockStage {s : State} (h : Inv s) (hp : s.seq.phase = .idle) (hk : s.seq.opk = .dfrd) :
    Inv { s with seq := { s.seq with stage := .blk } } :=
  inv_of_idle hp
    { status := ⟨h.status.errIffErr, h.status.neverDeviceReported⟩
      cause := h.cause
      busyIffRunning := h.seq.busyIffRunning
      stageIffRead := ⟨fun _ => hk, fun _ => by simp⟩
      rawWriteFits := h.buffers.rawWriteFits
      rawReadFits := h.buffers.rawReadFits
      progress := ⟨h.progress.total, h.progress.aligned, h.progress.remains, fun hg => by simp at hg⟩
      memory := ⟨h.memory.obuf, h.memory.ibuf⟩ }
    (h.buffers.idleEmpty hp) (h.settled_of_idle hp)

/-- A transaction has succeeded, its buffers released: the operation goes on or ends. -/
theorem inv_afterSuccess {s : State} (data : List Byte) (h : Inv s) (hp : s.seq.phase = .idle) :
    Inv (afterSuccess data s) := by
  have ht := h.settled_of_idle hp
  have hm := h.memory
  cases hk : s.seq.opk with
  | none => rw [afterSuccess_none hk]; exact h
  | xfw => rw [afterSuccess_xfw hk]; exact inv_finish h.cause hm ht
  | xfwr => rw [afterSuccess_xfwr hk]; exact inv_finish h.cause ⟨hm.obuf, memWrite_wf _ _ _ hm.ibuf⟩ ht
  | dfwr =>
    have hg : s.seq.stage = .none := not_not.mp fun hg => by simp [h.seq.stageIffRead.mp hg] at hk
    rw [afterSuccess_dfwr hk]
    exact inv_chunkDone h hp (.inl hk) (by simp [hg])
  | dfrd =>
    by_cases hg : s.seq.stage = .blk
    · have hi : Inv { s with ibuf := memWrite s.ibuf s.off (blockData s data) } :=
        inv_of_idle hp
          (h.operation.of_progress ⟨h.progress.total, h.progress.aligned, h.progress.remains, h.progress.selectFirst⟩
            ⟨hm.obuf, memWrite_wf _ _ _ hm.ibuf⟩)
          (h.buffers.idleEmpty hp) ht
      rw [afterSuccess_block hk hg]
      exact inv_chunkDone hi hp (.inr hk) (by simp [hg])
    · rw [afterSuccess_select hk hg]
      exact inv_continueLoop h.cause ⟨hm.obuf, hm.ibuf⟩ ht fun _ => inv_blockStage h hp hk

/-! ### The answer to an attempt -/

section
variable {s : State} {o : BusOutcome} (h : Inv s)
include h

/-- The running operation is as it was when the outcome is in. -/
theorem Inv.operation_answered : OperationOk (answered o s) := h.operation.of_same

theorem Inv.settled_answered (hp : s.seq.phase = .attempt) : Settled (answered o s).trace := by
  rw [answered_trace]
  exact settled_settleNewest (shown_ne_pending o) (h.settled_tail hp)

/-- What the port brings fits RXB (R24, R111). -/
theorem Inv.rxb_answered_fits (ha : AnswerOk s o) : (answered o s).scratch.rxb.length ≤ Config.rxbSize := by
  obtain ⟨-, hd, -, -⟩ := ha
  cases o with
  | ok data =>
    have hl : data.length ≤ Config.rxbSize := by rw [hd data rfl]; exact h.buffers.requestFits
    simp only [answered, receive, afterCheck]
    split <;> exact hl
  | busError c => exact h.buffers.rxbFits
  | timeout => exact h.buffers.rxbFits

/-- The attempt succeeded (R114). -/
theorem inv_succeeded (data : List Byte) (hp : s.seq.phase = .attempt) :
    Inv (afterSuccess data (releaseBuffers (answered o s))) := by
  have hp' : (releaseBuffers (answered o s)).seq.phase = .idle := by simp
  exact inv_afterSuccess data
    (inv_of_idle hp' (h.operation_answered (o := o)).of_same rfl (h.settled_answered hp)) hp'

/-- The attempt failed with budget left: one retry is consumed and the backoff runs (R115). -/
theorem inv_backoff (ha : AnswerOk s o) (hp : s.seq.phase = .attempt) (hr : s.retry ≠ 0#8) :
    Inv (emit (.d s.params.backoffMs)
      { answered o s with retry := s.retry - 1#8, seq := { s.seq with phase := .backoff } }) := by
  have hw : s.seq.phase ≠ .idle := by simp [hp]
  have ht := h.settled_answered (o := o) hp
  generalize hu : emit (.d s.params.backoffMs)
    { answered o s with retry := s.retry - 1#8, seq := { s.seq with phase := .backoff } } = u
  have ho : OperationOk u := by
    subst hu; exact h.operation.of_same
  have hcall : u.scratch.call = s.scratch.call := by simp [← hu]
  have hcfgs : u.cfgs = s.cfgs := by simp [← hu]
  have hparams : u.params = s.params := by simp [← hu]
  have hc : callOf u = callOf s := by
    subst hu
    exact callOf_congr (by simp) (by simp) (by simp) (by simp) (by simp) (by simp) (by simp) (by simp) (by simp)
  exact
    { status := ho.status
      cause := ho.cause
      seq := ⟨ho.busyIffRunning, fun _ => by simpa [← hu] using h.busy_of_waiting hw, ho.stageIffRead⟩
      buffers :=
        { txbFits := by simpa [← hu] using h.buffers.txbFits
          rxbFits := by simpa [← hu] using h.rxb_answered_fits ha
          requestFits := by rw [requestedBytes_congr hcall hcfgs]; exact h.buffers.requestFits
          rawWriteFits := ho.rawWriteFits
          rawReadFits := ho.rawReadFits
          idleEmpty := fun hi => by simp [← hu] at hi
          callDetermined := fun _ => by rw [hcall, hc]; exact h.buffers.callDetermined hw
          txbIsFrame := fun _ => by
            rw [frameOf_congr hcall hcfgs hparams, ← h.buffers.txbIsFrame hw]
            simp [← hu]
          crcIsPec := fun _ hk hpec => by
            rw [hcall] at hk ⊢
            rw [hcfgs] at hpec
            rw [hparams, ← h.buffers.crcIsPec hw hk hpec, ← hu]
            exact (answered_of_unchecked o (by simp [hk])).1
          crcIsCleared := fun hi => by simp [← hu] at hi }
      progress := ho.progress
      retry := fun _ => by
        have hpos : s.retry.toNat ≠ 0 := fun h0 => hr (BitVec.eq_of_toNat_eq h0)
        have hle := h.retry hw
        simp [← hu, BitVec.toNat_sub]
        omega
      trace := ⟨fun hi => by simp [← hu] at hi, fun _ => by simp [← hu], by simpa [← hu, Settled, Event.isPending] using ht⟩
      memory := ho.memory }

/-- The attempt failed with no budget left: its error is raised (R116). -/
theorem inv_exhausted {f : Failure} (ha : AnswerOk s o) (hf : failureOf s o = some f) (hp : s.seq.phase = .attempt) :
    Inv (raise f.raised (answered o s)) := by
  refine inv_raise ?_ h.operation_answered.memory (h.settled_answered hp)
  obtain ⟨-, -, -, hc⟩ := ha
  rw [answered_params, answered_cause]
  obtain ⟨c, rfl, rfl⟩ | ⟨rfl, rfl⟩ | ⟨inp, rfl, rfl, -⟩ := failureOf_cases hf
  · exact hc c rfl
  · exact h.cause
  · exact h.cause

/-- The answer to the outstanding attempt (R118 s2). -/
theorem inv_completeAttempt (ha : AnswerOk s o) : Inv (completeAttempt o s) := by
  have hp : s.seq.phase = .attempt := ((outstanding_iff s .attempt).mp ha.1).2
  obtain ⟨-, he⟩ | ⟨f, hf, he⟩ := completeAttempt_cases o s
  · rw [he]
    exact inv_succeeded h _ hp
  · rw [he]
    obtain ⟨-, hf'⟩ | ⟨hr, hf'⟩ := afterFailure_cases f (answered o s)
    · rw [hf']
      exact inv_exhausted h ha hf hp
    · rw [hf']
      simpa using inv_backoff h ha hp (by simpa using hr)

end

end Sys2Proof.Machine

/-! ### The host's turns keep the invariant -/

namespace Sys2Proof.Machine

open Sys2Proof.Claims

section
variable {s : State} (h : Inv s)
include h

theorem Inv.scratch_of_not_busy (hb : s.status.state ≠ .busy) : s.scratch = Scratch.empty :=
  h.buffers.idleEmpty (by rw [h.seq_of_not_busy hb]; rfl)

theorem Inv.settled_of_not_busy (hb : s.status.state ≠ .busy) : Settled s.trace :=
  h.settled_of_idle (by rw [h.seq_of_not_busy hb]; rfl)

/-- Between operations the invariant does not speak of the registers that the host writes. -/
theorem Inv.of_rest {t : State} (hb : s.status.state ≠ .busy) (memory : MemoryOk t)
    (params : t.params = s.params := by simp) (status : t.status = s.status := by simp)
    (cause : t.cause = s.cause := by simp) (seq : t.seq = s.seq := by simp) (scratch : t.scratch = s.scratch := by simp)
    (trace : t.trace = s.trace := by simp) : Inv t :=
  inv_of_rest (by rw [seq, h.seq_of_not_busy hb]) (by rwa [status]) (by rw [scratch, h.scratch_of_not_busy hb])
    ⟨by rw [status]; exact h.status.errIffErr, by rw [status]; exact h.status.neverDeviceReported⟩
    (by rw [CauseOk, params, cause]; exact h.cause) memory (by rw [trace]; exact h.settled_of_not_busy hb)

/-- Between operations STATUS may be given any consistent report. -/
theorem Inv.of_report {t : State} (hb : s.status.state ≠ .busy) (status : StatusOk t) (hbt : t.status.state ≠ .busy)
    (params : t.params = s.params := by simp) (cause : t.cause = s.cause := by simp) (seq : t.seq = s.seq := by simp)
    (scratch : t.scratch = s.scratch := by simp) (trace : t.trace = s.trace := by simp) (obuf : t.obuf = s.obuf := by simp)
    (ibuf : t.ibuf = s.ibuf := by simp) : Inv t :=
  inv_of_rest (by rw [seq, h.seq_of_not_busy hb]) hbt (by rw [scratch, h.scratch_of_not_busy hb]) status
    (by rw [CauseOk, params, cause]; exact h.cause)
    ⟨by rw [obuf]; exact h.memory.obuf, by rw [ibuf]; exact h.memory.ibuf⟩
    (by rw [trace]; exact h.settled_of_not_busy hb)

/-- XF.W accepted (R145). -/
theorem inv_startRawWrite (hb : s.status.state ≠ .busy) : Inv (startRawWrite s) := by
  obtain ⟨hf, he⟩ | ⟨-, he⟩ := startRawWrite_cases s <;> rw [he]
  · exact inv_of_idle rfl
      { status := by constructor <;> simp
        cause := h.cause
        busyIffRunning := by simp
        stageIffRead := by simp
        rawWriteFits := fun _ => by simpa using hf
        rawReadFits := by simp
        progress := by constructor <;> simp
        memory := ⟨h.memory.obuf, h.memory.ibuf⟩ }
      (h.scratch_of_not_busy hb) (h.settled_of_not_busy hb)
  · exact inv_raise h.cause ⟨h.memory.obuf, h.memory.ibuf⟩ (h.settled_of_not_busy hb)

/-- XF.WR accepted (R146). -/
theorem inv_startRawRead (hb : s.status.state ≠ .busy) : Inv (startRawRead s) := by
  obtain ⟨ho, hi, he⟩ | ⟨-, he⟩ := startRawRead_cases s <;> rw [he]
  · exact inv_of_idle rfl
      { status := by constructor <;> simp
        cause := h.cause
        busyIffRunning := by simp
        stageIffRead := by simp
        rawWriteFits := by simp
        rawReadFits := fun _ => by simpa using ⟨ho, hi⟩
        progress := by constructor <;> simp
        memory := ⟨h.memory.obuf, h.memory.ibuf⟩ }
      (h.scratch_of_not_busy hb) (h.settled_of_not_busy hb)
  · exact inv_raise h.cause ⟨h.memory.obuf, h.memory.ibuf⟩ (h.settled_of_not_busy hb)

/-- DF.WR accepted (R170, R181). -/
theorem inv_startChunkedWrite (hb : s.status.state ≠ .busy) : Inv (startChunkedWrite s) := by
  have ht := h.settled_of_not_busy hb
  refine inv_continueLoop h.cause ⟨h.memory.obuf, h.memory.ibuf⟩ ht fun hr => ?_
  exact inv_of_idle rfl
    { status := by constructor <;> simp
      cause := h.cause
      busyIffRunning := by simp
      stageIffRead := by simp
      rawWriteFits := by simp
      rawReadFits := by simp
      progress := ⟨by simp, by simp, fun _ => hr, by simp⟩
      memory := ⟨h.memory.obuf, h.memory.ibuf⟩ }
    (h.scratch_of_not_busy hb) ht

/-- DF.RD accepted (R175, R181). -/
theorem inv_startChunkedRead (hb : s.status.state ≠ .busy) : Inv (startChunkedRead s) := by
  have ht := h.settled_of_not_busy hb
  unfold startChunkedRead
  dsimp only
  split
  · exact inv_finish h.cause ⟨h.memory.obuf, h.memory.ibuf⟩ ht
  · rename_i hl
    exact inv_of_idle rfl
      { status := by constructor <;> simp
        cause := h.cause
        busyIffRunning := by simp
        stageIffRead := by simp
        rawWriteFits := by simp
        rawReadFits := by simp
        progress := ⟨by simp, by simp, fun _ => hl, by simp⟩
        memory := ⟨h.memory.obuf, h.memory.ibuf⟩ }
      (h.scratch_of_not_busy hb) ht

/-- ABORT takes effect (R97): no request is left outstanding. -/
theorem inv_cancelOperation : Inv (cancelOperation s) := by
  refine inv_of_rest rfl (by simp) rfl ⟨by simp, by simp⟩ ?_ ⟨?_, ?_⟩ ?_
  · rw [CauseOk, cancelOperation_params, cancelOperation_cause]; exact h.cause
  · rw [cancelOperation_obuf]; exact h.memory.obuf
  · rw [cancelOperation_ibuf]; exact h.memory.ibuf
  · rw [cancelOperation_trace]
    split
    · exact settled_settleNewest (by simp) (h.settled_tail ‹_›)
    · simpa [Settled, *] using h.trace.settled

theorem inv_effectOf_abort : Inv (effectOf .abort s) := by
  obtain ⟨hr, he⟩ | ⟨-, -, he⟩ | ⟨-, hb, he⟩ := effectOf_abort_cases s <;> rw [he]
  · exact (inv_issueNext h hr).of_same
  · exact inv_cancelOperation h
  · have hb : s.status.state ≠ .busy := by simpa [State.busy] using hb
    exact h.of_report hb (by constructor <;> simp) (by simp)

/-- An accepted operation (R90). -/
theorem inv_effectOf {i : Instr} (ha : s.busy = true → Instr.acceptedWhileBusy i = true) : Inv (effectOf i s) := by
  have hb : Instr.acceptedWhileBusy i = false → s.status.state ≠ .busy := fun hi hb => by
    simp [hi, (busy_iff s).mpr hb] at ha
  have hm := h.memory
  unfold effectOf
  cases i with
  | cfgRetry imm8 => exact h.of_same
  | cfgPec r w => exact h.of_same
  | cfgTmo imm16 => exact h.of_same
  | setBase imm16 => exact h.of_rest (hb rfl) ⟨hm.obuf, hm.ibuf⟩
  | setLen imm16 => exact h.of_rest (hb rfl) ⟨hm.obuf, hm.ibuf⟩
  | setIlen imm16 => exact h.of_rest (hb rfl) ⟨hm.obuf, hm.ibuf⟩
  | pecClr => exact h.of_rest (hb rfl) ⟨hm.obuf, hm.ibuf⟩
  | pecUpd imm8 => exact h.of_rest (hb rfl) ⟨hm.obuf, hm.ibuf⟩
  | pecAdw => exact h.of_rest (hb rfl) ⟨hm.obuf, hm.ibuf⟩
  | pecAdr => exact h.of_rest (hb rfl) ⟨hm.obuf, hm.ibuf⟩
  | pecChk imm8 => exact h.of_rest (hb rfl) ⟨hm.obuf, hm.ibuf⟩
  | xfW => exact inv_startRawWrite h (hb rfl)
  | xfWr => exact inv_startRawRead h (hb rfl)
  | dfWr => exact inv_startChunkedWrite h (hb rfl)
  | dfRd => exact inv_startChunkedRead h (hb rfl)
  | abort => exact inv_effectOf_abort h

/-- A presented word that the port accepts (R90, R69). -/
theorem inv_presented {w : Word} (ha : WordAccepted s w) : Inv (turnEffect (.command w) s) := by
  obtain ⟨i, hd, he⟩ | ⟨e, hd, he⟩ := turnEffect_command_cases w s <;> rw [he]
  · exact inv_effectOf h fun hb => by simpa [hd] using ha hb
  · have hb : s.status.state ≠ .busy := fun hb => by simpa [hd] using ha ((busy_iff s).mpr hb)
    exact h.of_report hb (by constructor <;> simp) (by simp)

/-- The host's store, when not BUSY (R56). -/
theorem inv_storeByte (sp : Space) (a : Half) (v : Byte) (hb : s.status.state ≠ .busy) : Inv (storeByte sp a v s) := by
  cases sp with
  | obuf => exact h.of_rest hb ⟨Memory.wf_put _ a v h.memory.obuf, h.memory.ibuf⟩
  | ibuf => exact h.of_rest hb ⟨h.memory.obuf, Memory.wf_put _ a v h.memory.ibuf⟩

end

theorem isCause_toCause (p : Params) (c : Cause) : p.isCause (p.toCause c) = true := by
  unfold Params.isCause Params.toCause
  split <;> simp [*]

/-- Reset in any state (R220, R221). -/
theorem inv_resetBlock {s : State} (h : Inv s) : Inv (resetBlock s) := by
  have ht : Settled (cancelOperation s).trace :=
    (inv_cancelOperation h).settled_of_not_busy (by simp)
  refine inv_of_rest rfl (by simp [resetBlock]) rfl ⟨by simp [resetBlock], by simp [resetBlock]⟩ ?_ ⟨?_, ?_⟩ ht
  · exact isCause_toCause _ _
  · rw [resetBlock_obuf]; exact h.memory.obuf
  · rw [resetBlock_ibuf]; exact h.memory.ibuf

/-- Every turn keeps the invariant: ENGINE's and the ports' by the engine's moves, the host's by acceptance. -/
theorem inv_turnEffect {s : State} {i : Input} (h : Inv s) (hok : InputOk s i) : Inv (turnEffect i s) := by
  unfold turnEffect
  cases i with
  | engine => exact inv_issueNext h hok
  | command w => exact inv_presented h hok
  | busAnswer o => exact inv_completeAttempt h hok
  | delayDone => exact inv_completeBackoff h ((outstanding_iff s .backoff).mp hok).2
  | readReg i => exact h.of_same
  | loadBuf sp a => exact h.of_same
  | storeBuf sp a v =>
    have hb : s.busy = false := hok
    exact inv_storeByte h sp a v (by simpa [State.busy] using hb)
  | reset => exact inv_resetBlock h

end Sys2Proof.Machine

namespace Sys2Proof.Proofs

open Sys2Proof.Machine Sys2Proof.Claims

/-- Settles O42: taking the next turn off the schedule keeps the invariant, and so does the turn's effect. -/
theorem stepKeepsTheInvariant : Obligations.StepKeepsTheInvariant := by
  intro s t h hs
  obtain ⟨-, rfl | ⟨hr, rfl⟩⟩ | ⟨i, rest, -, hok, rfl⟩ := step_next hs
  · exact h
  · exact inv_issueNext h hr
  · exact inv_turnEffect h.of_same ((inputOk_withInputs s rest i).mpr hok)

/-- Settles O41: after reset the block is at rest. -/
theorem resetMeetsTheInvariant : Obligations.ResetMeetsTheInvariant :=
  inv_of_rest rfl (by decide) rfl ⟨by decide, by decide⟩ (by unfold CauseOk; decide) ⟨rfl, rfl⟩ (fun _ he => by cases he)

end Sys2Proof.Proofs

/-! ### Progress, and CRC around an unanswered attempt -/

namespace Sys2Proof.Machine

open Sys2Proof.Claims

theorem storeChunk_off (data : List Byte) (s : State) :
    (storeChunk data s).off = (advanceProgress (chunkSize s) s).off := rfl

theorem storeChunk_rem (data : List Byte) (s : State) :
    (storeChunk data s).rem = (advanceProgress (chunkSize s) s).rem := rfl

/-- After a success of a chunked operation OFF + REM is still LEN: a chunk moves its size from REM to OFF (R21). -/
theorem afterSuccess_progress {s : State} (data : List Byte) (hk : s.seq.opk = .dfwr ∨ s.seq.opk = .dfrd)
    (hsum : s.off.toNat + s.rem.toNat = s.len.toNat) :
    (afterSuccess data s).off.toNat + (afterSuccess data s).rem.toNat = s.len.toNat := by
  have hlen := s.len.isLt
  have hn := chunkSize_le s
  have hoff := advanceProgress_off_toNat s (by omega)
  have hrem := advanceProgress_rem_toNat s
  have counted : (advanceProgress (chunkSize s) s).off.toNat + (advanceProgress (chunkSize s) s).rem.toNat = s.len.toNat := by
    omega
  obtain hk | hk := hk
  · simpa only [afterSuccess_dfwr hk, continueLoop_off, continueLoop_rem] using counted
  · by_cases hg : s.seq.stage = .blk
    · simpa only [afterSuccess_block hk hg, continueLoop_off, continueLoop_rem, storeChunk_off, storeChunk_rem] using counted
    · simpa only [afterSuccess_select hk hg, continueLoop_off, continueLoop_rem] using hsum

theorem completeAttempt_progress {s : State} (o : BusOutcome) (hk : s.seq.opk = .dfwr ∨ s.seq.opk = .dfrd)
    (hsum : s.off.toNat + s.rem.toNat = s.len.toNat) :
    (completeAttempt o s).off.toNat + (completeAttempt o s).rem.toNat = s.len.toNat := by
  obtain ⟨-, he⟩ | ⟨f, -, he⟩ := completeAttempt_cases o s
  · rw [he]
    simpa using afterSuccess_progress (s := releaseBuffers (answered o s)) (payloadOf s o) (by simpa using hk)
      (by simpa using hsum)
  · simpa [he] using hsum

/-- Only the operations the port refuses while BUSY write OFF and REM. -/
theorem classOf_ne_chunked_of_acceptedWhileBusy {i : Instr} (h : Instr.acceptedWhileBusy i = true) :
    classOf i ≠ .chunked := by
  cases i <;> simp [classOf, Instr.acceptedWhileBusy] at h ⊢

/-- While a chunked operation runs, every turn but reset leaves OFF + REM = LEN (R21). -/
theorem turnEffect_progress {s : State} {i : Input} (hb : s.busy = true) (hk : s.seq.opk = .dfwr ∨ s.seq.opk = .dfrd)
    (hsum : s.off.toNat + s.rem.toNat = s.len.toNat) (hok : InputOk s i) (hi : i ≠ .reset) :
    (turnEffect i s).off.toNat + (turnEffect i s).rem.toNat = s.len.toNat := by
  cases i with
  | engine => simpa [turnEffect] using hsum
  | command w =>
    obtain ⟨j, hd, ha⟩ := (show WordAccepted s w from hok) hb
    have hc := classOf_ne_chunked_of_acceptedWhileBusy ha
    simpa [turnEffect, hd, effectOf_off s hc, effectOf_rem s hc] using hsum
  | busAnswer o => exact completeAttempt_progress o hk hsum
  | delayDone => simpa [turnEffect] using hsum
  | readReg i => exact hsum
  | loadBuf sp a => exact hsum
  | storeBuf sp a v =>
    have hnb : s.busy = false := hok
    simp [hb] at hnb
  | reset => exact absurd rfl hi

/-- An attempt that ended with no answer leaves Z, and a checked one the CRC it found (R12, R141). -/
theorem answered_of_failure {s : State} {o : BusOutcome} (h : ∀ data, o ≠ .ok data) :
    (answered o s).crc = (if checksRead s then s.scratch.heldCrc else s.crc) ∧ (answered o s).z = s.z := by
  cases o with
  | ok data => exact absurd rfl (h data)
  | busError c => exact ⟨rfl, rfl⟩
  | timeout => exact ⟨rfl, rfl⟩

/-- With no answer to a checked read CRC is as the attempt found it and Z as it was, whether budget is left or not (R141). -/
theorem completeAttempt_unanswered {s : State} {o : BusOutcome} (h : ∀ data, o ≠ .ok data) (hc : checksRead s = true) :
    (completeAttempt o s).crc = s.scratch.heldCrc ∧ (completeAttempt o s).z = s.z ∧
      (completeAttempt o s).seq.phase ≠ .attempt := by
  obtain ⟨hcrc, hz⟩ := answered_of_failure (s := s) h
  obtain ⟨hf, -⟩ | ⟨f, -, he⟩ := completeAttempt_cases o s
  · obtain ⟨data, rfl⟩ := ok_of_failureOf_none hf
    exact absurd rfl (h data)
  · refine ⟨?_, ?_, ?_⟩
    · rw [he, afterFailure_crc, hcrc, if_pos hc]
    · rw [he, afterFailure_z, hz]
    · obtain ⟨-, hf⟩ | ⟨-, hf⟩ := afterFailure_cases f (answered o s) <;> simp [he, hf, Seq.idle]

end Sys2Proof.Machine

namespace Sys2Proof.Proofs

open Sys2Proof.Machine Sys2Proof.Claims

/-- Settles O50: ENGINE's s1 keeps OFF and REM, and every turn but reset keeps their sum. -/
theorem progressSumsToLength : Obligations.ProgressSumsToLength := by
  intro s t h hk hne hs
  have hsum := h.progress.total hk
  have hb : s.busy = true := (busy_iff s).mpr (h.seq.busyIffRunning.mpr (by rcases hk with hk | hk <;> simp [hk]))
  obtain ⟨-, rfl | ⟨-, rfl⟩⟩ | ⟨i, rest, hi, hok, rfl⟩ := step_next hs
  · exact hsum
  · simpa using hsum
  · exact turnEffect_progress (s := { s with inputs := rest }) hb hk hsum ((inputOk_withInputs s rest i).mpr hok)
      (by rintro rfl; exact hne rest hi)

end Sys2Proof.Proofs

/-! ### CRC around a protected read attempt -/

namespace Sys2Proof.Machine

open Sys2Proof.Claims

/-- The calls of XF.WR and of a block read are write-then-reads (R146, R175). -/
theorem callOf_kind_of_read {s : State} (h : s.seq.opk = .xfwr ∨ (s.seq.opk = .dfrd ∧ s.seq.stage = .blk)) :
    (callOf s).kind = .wr := by
  obtain hk | ⟨hk, hg⟩ := h
  · simp [callOf, hk]
  · simp [callOf, hk, hg]

/-- A protected read attempt that is issued and then gets no answer: CRC is cleared while the request is outstanding, and
afterwards it is what the attempt found (R11, R141; log entry 19). -/
theorem issueAttempt_then_unanswered {s : State} {o : BusOutcome} {rest : List Input} (hk : s.scratch.call.kind = .wr)
    (hp : s.cfgs.pecOnRead = true) (hb : s.status.state = .busy)
    (ho : o = .timeout ∧ s.cfgs.timeoutMs ≠ 0#16 ∨ ∃ c, o = .busError c ∧ s.params.isCause c = true)
    (hi : s.inputs = .busAnswer o :: rest) :
    (issueAttempt s).crc = 0x00#8 ∧
      ∃ v, step (issueAttempt s) = .next v ∧ v.seq.phase ≠ .attempt ∧ v.crc = s.crc ∧ v.z = s.z := by
  have hcrc : (issueAttempt s).crc = 0x00#8 := by simp [issueAttempt_crc, hk, hp, Config.pecInit]
  have hno : ∀ data, o ≠ .ok data := by
    rintro data rfl
    simp at ho
  have hok : AnswerOk (issueAttempt s) o := by
    refine ⟨by simp [hb], fun data h => absurd h (hno data), ?_, ?_⟩
    · rintro rfl
      simpa using ho
    · rintro c rfl
      simpa using ho
  have hin : (issueAttempt s).inputs = .busAnswer o :: rest := by simp [hi]
  obtain ⟨hv, hz, hph⟩ := completeAttempt_unanswered (s := { issueAttempt s with inputs := rest }) hno
    ((checksRead_iff _).mpr (by simp [hk, hp]))
  exact ⟨hcrc, _, step_of_inputOk (i := .busAnswer o) hin hok, hph, hv.trans (issueAttempt_heldCrc s),
    hz.trans (issueAttempt_z s)⟩

end Sys2Proof.Machine

namespace Sys2Proof.Proofs

open Sys2Proof.Machine Sys2Proof.Claims

/-- Settles O60: ENGINE's first attempt and a backoff's reissue are both `issueAttempt` of a protected read. -/
theorem protectedReadAttemptClearsCrc : Obligations.ProtectedReadAttemptClearsCrc := by
  rintro s i o rest h hp (⟨rfl, hb, hph, hk⟩ | ⟨rfl, hph, hk⟩) ho hi
  · obtain ⟨hcrc, v, hv, hvp, hvc, hvz⟩ := issueAttempt_then_unanswered (o := o) (rest := rest)
      (s := { s with
        inputs := .busAnswer o :: rest
        retry := s.cfgs.maxRetries
        scratch := { Scratch.empty with call := callOf { s with inputs := .busAnswer o :: rest } } })
      (callOf_kind_of_read hk) hp hb ho rfl
    exact ⟨_, v, step_of_inputOk hi ((engineReady_iff s).mpr ⟨hb, hph⟩), by simp [turnEffect], hcrc, by simp [turnEffect],
      hv, hvp, hvc, hvz⟩
  · have hb : s.status.state = .busy := h.busy_of_waiting (by simp [hph])
    obtain ⟨hcrc, v, hv, hvp, hvc, hvz⟩ := issueAttempt_then_unanswered (o := o) (rest := rest)
      (s := { s with inputs := .busAnswer o :: rest, seq := { s.seq with phase := .idle } }) hk hp hb ho rfl
    exact ⟨_, v, step_of_inputOk hi ((outstanding_iff s .backoff).mpr ⟨hb, hph⟩), by simp [turnEffect, completeBackoff], hcrc,
      by simp [turnEffect], hv, hvp, hvc, hvz⟩

end Sys2Proof.Proofs

/-! ### What a running operation sees of CFG -/

namespace Sys2Proof.Machine

open Sys2Proof.Claims

/-- The same state but for CFG. -/
def State.withCfg (c : CfgRecord) (s : State) : State := { s with cfg := c }

section
variable (c : CfgRecord) (s : State)

theorem issueAttempt_withCfg : issueAttempt (s.withCfg c) = (issueAttempt s).withCfg c := by
  have hs : (s.withCfg c).scratch = s.scratch := rfl
  unfold issueAttempt
  rw [hs]
  cases s.scratch.call.kind <;> rfl

theorem issueNext_withCfg : issueNext (s.withCfg c) = (issueNext s).withCfg c := by
  have hc : callOf (s.withCfg c) = callOf s := callOf_congr rfl rfl rfl rfl rfl rfl rfl rfl rfl
  rw [issueNext, hc]
  exact issueAttempt_withCfg c { s with retry := s.cfgs.maxRetries, scratch := { Scratch.empty with call := callOf s } }

theorem completeBackoff_withCfg : completeBackoff (s.withCfg c) = (completeBackoff s).withCfg c :=
  issueAttempt_withCfg c { s with seq := { s.seq with phase := .idle } }

theorem afterCheck_withCfg (inp : List Byte) : afterCheck inp (s.withCfg c) = (afterCheck inp s).withCfg c := by
  unfold afterCheck
  dsimp only
  rw [apply_ite (State.withCfg c)]
  rfl

theorem answered_withCfg (o : BusOutcome) : answered o (s.withCfg c) = (answered o s).withCfg c := by
  cases o with
  | ok data =>
    exact afterCheck_withCfg c (settleRequest (.ok data) { s with seq := { s.seq with phase := .idle } }) data
  | busError e => rfl
  | timeout => rfl

theorem afterFailure_withCfg (f : Failure) : afterFailure f (s.withCfg c) = (afterFailure f s).withCfg c := by
  unfold afterFailure
  rw [apply_ite (State.withCfg c)]
  rfl

theorem continueLoop_withCfg : continueLoop (s.withCfg c) = (continueLoop s).withCfg c := by
  unfold continueLoop
  rw [apply_ite (State.withCfg c)]
  rfl

theorem afterSuccess_withCfg (data : List Byte) :
    afterSuccess data (s.withCfg c) = (afterSuccess data s).withCfg c := by
  have hseq : (s.withCfg c).seq = s.seq := rfl
  cases hk : s.seq.opk with
  | none => rw [afterSuccess_none hk, afterSuccess_none (hseq ▸ hk)]
  | xfw => rw [afterSuccess_xfw hk, afterSuccess_xfw (hseq ▸ hk)]; rfl
  | xfwr => rw [afterSuccess_xfwr hk, afterSuccess_xfwr (hseq ▸ hk)]; rfl
  | dfwr =>
    rw [afterSuccess_dfwr hk, afterSuccess_dfwr (hseq ▸ hk)]
    exact continueLoop_withCfg c (advanceProgress (chunkSize s) s)
  | dfrd =>
    by_cases hg : s.seq.stage = .blk
    · rw [afterSuccess_block hk hg, afterSuccess_block (hseq ▸ hk) (hseq ▸ hg)]
      exact continueLoop_withCfg c (storeChunk data s)
    · rw [afterSuccess_select hk hg, afterSuccess_select (hseq ▸ hk) (hseq ▸ hg)]
      exact continueLoop_withCfg c { s with seq := { s.seq with stage := .blk } }

theorem completeAttempt_withCfg (o : BusOutcome) :
    completeAttempt o (s.withCfg c) = (completeAttempt o s).withCfg c := by
  have hf : failureOf (s.withCfg c) o = failureOf s o := failureOf_congr o rfl rfl rfl
  have hp : payloadOf (s.withCfg c) o = payloadOf s o := by cases o <;> rfl
  simp only [completeAttempt, hf, hp, answered_withCfg]
  cases failureOf s o with
  | none => exact afterSuccess_withCfg c (releaseBuffers (answered o s)) (payloadOf s o)
  | some f => exact afterFailure_withCfg c (answered o s) f

end

/-- The turns that carry a running operation on: ENGINE's, and the ports' answers (R118). -/
def Input.carriesOn (i : Input) : Prop := i = .engine ∨ (∃ o, i = .busAnswer o) ∨ i = .delayDone

section
variable {i : Input} (h : i.carriesOn)
include h

/-- Whether such a turn is there does not depend on CFG. -/
theorem inputOk_withCfg (c : CfgRecord) (s : State) : InputOk (s.withCfg c) i ↔ InputOk s i := by
  obtain rfl | ⟨o, rfl⟩ | rfl := h <;> exact Iff.rfl

/-- What such a turn does does not depend on CFG, which it keeps (R14, R98). -/
theorem turnEffect_withCfg (c : CfgRecord) (s : State) :
    turnEffect i (s.withCfg c) = (turnEffect i s).withCfg c := by
  obtain rfl | ⟨o, rfl⟩ | rfl := h
  · exact issueNext_withCfg c s
  · exact completeAttempt_withCfg c s o
  · exact completeBackoff_withCfg c s

theorem turnEffect_configuration (s : State) : (turnEffect i s).cfgs = s.cfgs ∧ (turnEffect i s).cfg = s.cfg := by
  obtain rfl | ⟨o, rfl⟩ | rfl := h
  · exact ⟨issueNext_cfgs s, issueNext_cfg s⟩
  · exact ⟨completeAttempt_cfgs o s, completeAttempt_cfg o s⟩
  · exact ⟨completeBackoff_cfgs s, completeBackoff_cfg s⟩

end

end Sys2Proof.Machine

namespace Sys2Proof.Proofs

open Sys2Proof.Machine Sys2Proof.Claims

/-- Settles O10: acceptance takes the snapshot, no other operation writes it, and a running operation's turns commute with a
change of CFG. -/
theorem snapshotGovernsTheOperation : Obligations.SnapshotGovernsTheOperation := by
  refine ⟨fun i s t h hc => ?_, fun i s t h hr hc => ?_, fun s c rest i t hi hin hs => ?_, rfl, fun s => rfl⟩
  · obtain ⟨-, rfl⟩ := exec_next h
    exact effectOf_cfgs_of_transaction s hc
  · obtain ⟨-, rfl⟩ := exec_next h
    exact effectOf_cfgs s hr hc
  · rw [step_cons hin] at hs
    obtain ⟨hok, rfl⟩ := perform_next hs
    obtain ⟨hcfgs, hcfg⟩ := turnEffect_configuration hi { s with inputs := rest }
    refine ⟨hcfgs, hcfg, ?_⟩
    have hstep : step (s.withCfg c) = perform i (State.withCfg c { s with inputs := rest }) := step_cons hin
    exact hstep.trans ((perform_of_inputOk ((inputOk_withCfg hi c _).mpr hok)).trans
      (congrArg _ (turnEffect_withCfg hi c _)))

end Sys2Proof.Proofs

/-! ### How the trace grows -/

namespace Sys2Proof.Machine

open Sys2Proof.Claims

/-- What one step can make of a trace `l` in phase `p` (R53, R54): the outstanding request's event may get its outcome, and one
event may be appended. -/
inductive TraceStep (p : Phase) (l : List Event) : List Event → Prop where
  | kept : TraceStep p l l
  | appended (e : Event) : TraceStep p l (e :: l)
  | settled (o : EventOutcome) (hp : p = .attempt) : TraceStep p l (settleNewest o l)
  | settledAppended (o : EventOutcome) (e : Event) (hp : p = .attempt) : TraceStep p l (e :: settleNewest o l)

/-- With no request outstanding every event stays in its place. -/
theorem TraceStep.suffix {p : Phase} {l l' : List Event} (h : TraceStep p l l') (hp : p ≠ .attempt) : l <:+ l' := by
  cases h with
  | kept => exact List.suffix_refl l
  | appended e => exact List.suffix_cons e l
  | settled o ha => exact absurd ha hp
  | settledAppended o e ha => exact absurd ha hp

/-- An outstanding newest event stays, as it is (outcome `pending`) or with its outcome, over the events that stay before it. -/
theorem TraceStep.suffix_settle {p : Phase} {r : Event} {l l' : List Event} (h : TraceStep p (r :: l) l')
    (hr : r.settle .pending = r) : ∃ o, (r.settle o :: l) <:+ l' := by
  cases h with
  | kept => exact ⟨.pending, by rw [hr]⟩
  | appended e => exact ⟨.pending, by rw [hr]; exact List.suffix_cons e _⟩
  | settled o hp => exact ⟨o, List.suffix_refl _⟩
  | settledAppended o e hp => exact ⟨o, List.suffix_cons e _⟩

theorem settleNewest_length (o : EventOutcome) (l : List Event) : (settleNewest o l).length = l.length := by cases l <;> rfl

theorem TraceStep.length {p : Phase} {l l' : List Event} (h : TraceStep p l l') :
    l.length ≤ l'.length ∧ l'.length ≤ l.length + 1 := by
  cases h <;> simp [settleNewest_length]

/-- A request just issued shows outcome `pending` (R53). -/
theorem requestEvent_settle_pending (s : State) : (requestEvent s).settle .pending = requestEvent s := by
  unfold requestEvent; split <;> rfl

/-- In ATTEMPT the newest event is the running call's request (R54). -/
theorem Inv.trace_of_attempt {s : State} (h : Inv s) (hp : s.seq.phase = .attempt) :
    s.trace = requestEvent s :: s.trace.tail :=
  List.eq_cons_of_mem_head? (h.trace.attempt hp)

section
variable (s : State)

/-- ENGINE's s1 appends its request. -/
theorem issueNext_traceStep : TraceStep s.seq.phase s.trace (issueNext s).trace := by
  rw [issueNext, beginTransaction_trace]
  exact .appended _

/-- A reissue appends its request. -/
theorem completeBackoff_traceStep : TraceStep s.seq.phase s.trace (completeBackoff s).trace := by
  rw [completeBackoff, issueAttempt_trace]
  exact .appended _

/-- An answer settles its request, and a failed attempt with budget left appends its delay. -/
theorem completeAttempt_traceStep (o : BusOutcome) (hp : s.seq.phase = .attempt) :
    TraceStep s.seq.phase s.trace (completeAttempt o s).trace := by
  obtain ⟨-, he⟩ | ⟨f, -, he⟩ := completeAttempt_cases o s
  · rw [he, afterSuccess_trace, releaseBuffers_trace, answered_trace]
    exact .settled _ hp
  · obtain ⟨-, hf⟩ | ⟨-, hf⟩ := afterFailure_cases f (answered o s)
    · rw [he, hf, raise_trace, answered_trace]
      exact .settled _ hp
    · rw [he, hf, emit_trace, answered_trace]
      exact .settledAppended _ _ hp

/-- An abandoned request is settled; there is one only in ATTEMPT (R97, R221). -/
theorem abandonRequest_traceStep : TraceStep s.seq.phase s.trace (abandonRequest s).trace := by
  unfold abandonRequest
  split
  · exact .settled _ ‹_›
  · exact .kept

/-- Of the operations ABORT alone changes the trace: it cancels the request, or waits while ENGINE issues one. -/
theorem effectOf_traceStep (i : Instr) : TraceStep s.seq.phase s.trace (effectOf i s).trace := by
  by_cases hc : classOf i = .control
  · rw [classOf_eq_control hc]
    obtain ⟨-, he⟩ | ⟨-, -, he⟩ | ⟨-, -, he⟩ := effectOf_abort_cases s <;> rw [he]
    · exact issueNext_traceStep s
    · exact abandonRequest_traceStep s
    · exact .kept
  · rw [effectOf_trace s hc]
    exact .kept

/-- Every turn its agent has: ENGINE's and the ports' by the engine's moves, the host's by acceptance and reset. -/
theorem turnEffect_traceStep {i : Input} (hok : InputOk s i) : TraceStep s.seq.phase s.trace (turnEffect i s).trace := by
  cases i with
  | engine => exact issueNext_traceStep s
  | command w =>
    obtain ⟨i, -, he⟩ | ⟨e, -, he⟩ := turnEffect_command_cases w s <;> rw [he]
    · exact effectOf_traceStep s i
    · exact .kept
  | busAnswer o => exact completeAttempt_traceStep s o ((outstanding_iff s .attempt).mp hok.1).2
  | delayDone => exact completeBackoff_traceStep s
  | readReg i => exact .kept
  | loadBuf sp a => exact .kept
  | storeBuf sp a v =>
    rw [turnEffect, storeByte_trace]
    exact .kept
  | reset => exact abandonRequest_traceStep s

end

/-- Every step, the waiting one and ENGINE's unscheduled turn included. -/
theorem step_traceStep {s t : State} (h : step s = .next t) : TraceStep s.seq.phase s.trace t.trace := by
  obtain ⟨-, rfl | ⟨-, rfl⟩⟩ | ⟨i, rest, -, hok, rfl⟩ := step_next h
  · exact .kept
  · exact issueNext_traceStep s
  · exact turnEffect_traceStep { s with inputs := rest } ((inputOk_withInputs s rest i).mpr hok)

end Sys2Proof.Machine

namespace Sys2Proof.Proofs

open Sys2Proof.Machine

/-- Settles O49: a step settles the outstanding request's event at most, which the invariant makes the newest, and appends at most
one event. -/
theorem traceOnlyGrows : Obligations.TraceOnlyGrows := by
  intro s t hinv hstep
  have h := step_traceStep hstep
  refine ⟨h.suffix, fun hp => ?_, h.length⟩
  rw [hinv.trace_of_attempt hp] at h
  exact h.suffix_settle (requestEvent_settle_pending s)

end Sys2Proof.Proofs

/-! ### The host's buffers -/

namespace Sys2Proof.Machine

/-- While BUSY the host stores to neither buffer (R56, R228). -/
theorem hostStore_of_busy (sp : Space) (a : Half) (v : Byte) {s : State} (hb : s.busy = true) :
    hostStore sp a v s = .refused .bufferOwnedByOperation := if_pos hb

/-- While BUSY the host does not load IBUF (R56). -/
theorem hostLoad_ibuf_of_busy (a : Half) {s : State} (hb : s.busy = true) :
    hostLoad .ibuf a s = .refused .bufferOwnedByOperation := if_neg (by simp [mayLoad, hb])

end Sys2Proof.Machine

namespace Sys2Proof.Proofs

open Sys2Proof.Machine

/-- Settles O55: `memWrite_find` says what IBUF lists at the offset, and a byte that is not listed reads as before. -/
theorem bufferReadAfterWrite : Obligations.BufferReadAfterWrite := by
  intro s a x vs h
  simp only [readByte, State.buf, memWrite_find s.ibuf a x vs h]
  split
  · rfl
  · rfl

/-- Settles O53: the next turn is the host's access, and BUSY refuses it. -/
theorem buffersAreOwnedWhileBusy : Obligations.BuffersAreOwnedWhileBusy := by
  intro s a v sp rest hb
  exact ⟨fun hi => (step_cons hi).trans (hostStore_of_busy sp a v hb), fun hi => (step_cons hi).trans (hostLoad_ibuf_of_busy a hb)⟩

end Sys2Proof.Proofs

/-! ### Command words and their fields -/

namespace Sys2Proof

open Sys2Proof.Claims

/-- A command word's fields are well-formed iff OP has a format, RSV is zero and so is every bit the format does not use. -/
theorem Fields.wellFormed_iff (f : Fields) :
    f.wellFormed = true ↔ ∃ fmt, formatOf f.op = some fmt ∧ f.rsv = 0#8 ∧ f.imm &&& fmt.mustBeZero = 0#16 := by
  cases h : formatOf f.op <;> simp [wellFormed, opDefined, rsvZero, unusedZero, h]

/-- The IMM that keeps an operand and has zeros in the bits its format does not use (R61). -/
def Format.operandBits : Format → Half → Half
  | .n, _ => 0#16
  | .i2, imm => immOf2 (imm.getLsbD 0) (imm.getLsbD 1)
  | .i8, imm => immOf8 (imm8Of imm)
  | .i16, imm => imm

/-- An IMM whose unused bits are zero is its operand's. -/
theorem Format.operandBits_of_unused_zero {fmt : Format} {imm : Half} (h : imm &&& fmt.mustBeZero = 0#16) :
    fmt.operandBits imm = imm := by
  cases fmt with
  | n => exact h.symm.trans BitVec.and_allOnes
  | i2 => exact immOf2_bits imm h
  | i8 => exact immOf8_imm8Of imm h
  | i16 => rfl

/-- The fields of the operation that OP and IMM name: that OP, and the operand that OP's format takes from IMM. -/
theorem fields_of_operationOf {op : Byte} {imm : Half} {i : Instr} (h : operationOf op imm = some i) :
    ∃ fmt, formatOf op = some fmt ∧ i.fields = ⟨op, 0#8, fmt.operandBits imm⟩ := by
  unfold operationOf at h
  split at h
  all_goals cases h
  all_goals
    rename_i hop
    obtain ⟨-, rfl⟩ := BitVec.toNat_eq_nat.mp hop
    exact ⟨_, rfl, rfl⟩

/-- The decoder accepts exactly the well-formed fields, and gives the operation that OP and IMM name. -/
theorem decodeFields_eq_ok_iff (f : Fields) (i : Instr) :
    decodeFields f = .ok i ↔ f.wellFormed = true ∧ operationOf f.op f.imm = some i := by
  unfold decodeFields
  cases hr : f.rsvZero with
  | false => simp [Fields.wellFormed, hr]
  | true =>
    cases ho : operationOf f.op f.imm with
    | none => simp
    | some j =>
      obtain ⟨fmt, hfmt, -⟩ := fields_of_operationOf ho
      cases hu : f.unusedZero <;> simp [Fields.wellFormed, Fields.opDefined, hr, hu, hfmt]

/-- OP and IMM of an operation's fields name it. -/
theorem operationOf_fields (i : Instr) : operationOf i.fields.op i.fields.imm = some i := by
  cases i with
  | cfgRetry b => exact congrArg (some ∘ Instr.cfgRetry) (imm8Of_immOf8 b)
  | pecUpd b => exact congrArg (some ∘ Instr.pecUpd) (imm8Of_immOf8 b)
  | pecChk b => exact congrArg (some ∘ Instr.pecChk) (imm8Of_immOf8 b)
  | cfgPec r w => exact congrArg₂ (fun r w => some (Instr.cfgPec r w)) (immOf2_r r w) (immOf2_w r w)
  | _ => rfl

/-- Every operation's word is well-formed and selected by its row. -/
theorem encodesItsRow (i : Instr) : Laws.EncodesItsRow.Statement i := by
  cases i with
  | cfgRetry b => exact Laws.EncodesItsRow.cfgRetry b
  | cfgPec r w => exact Laws.EncodesItsRow.cfgPec r w
  | cfgTmo v => exact Laws.EncodesItsRow.cfgTmo v
  | setBase v => exact Laws.EncodesItsRow.setBase v
  | setLen v => exact Laws.EncodesItsRow.setLen v
  | setIlen v => exact Laws.EncodesItsRow.setIlen v
  | pecClr => exact Laws.EncodesItsRow.pecClr
  | pecUpd b => exact Laws.EncodesItsRow.pecUpd b
  | pecAdw => exact Laws.EncodesItsRow.pecAdw
  | pecAdr => exact Laws.EncodesItsRow.pecAdr
  | pecChk b => exact Laws.EncodesItsRow.pecChk b
  | xfW => exact Laws.EncodesItsRow.xfW
  | xfWr => exact Laws.EncodesItsRow.xfWr
  | dfWr => exact Laws.EncodesItsRow.dfWr
  | dfRd => exact Laws.EncodesItsRow.dfRd
  | abort => exact Laws.EncodesItsRow.abort

/-- Decoding an operation's word gives the operation. -/
theorem decode_encode (i : Instr) : decode (encode i) = .ok i := by
  rw [decode, encode, fieldsOf_wordOf]
  exact (decodeFields_eq_ok_iff _ _).mpr ⟨(encodesItsRow i).1, operationOf_fields i⟩

/-- A word that decodes is its operation's word. -/
theorem encode_of_decode {w : Word} {i : Instr} (h : decode w = .ok i) : encode i = w := by
  obtain ⟨hwf, hop⟩ := (decodeFields_eq_ok_iff _ _).mp h
  obtain ⟨fmt, hfmt, hrsv, himm⟩ := (Fields.wellFormed_iff _).mp hwf
  obtain ⟨fmt', hfmt', hi⟩ := fields_of_operationOf hop
  obtain rfl : fmt = fmt' := Option.some.inj (hfmt.symm.trans hfmt')
  rw [Format.operandBits_of_unused_zero himm, ← hrsv] at hi
  rw [encode, hi]
  exact wordOf_fieldsOf w

/-! ### The rows of the opcode map -/

/-- The row of R62 for an OP and its format: match is OP alone, mask is OP, RSV and the bits the format does not use. -/
def Format.row (fmt : Format) (op : Byte) : Row :=
  ⟨wordOf ⟨op, 0#8, 0#16⟩, wordOf ⟨0xFF#8, 0xFF#8, fmt.mustBeZero⟩⟩

/-- A row selects the words that have its OP, a zero RSV and zeros in the bits its format does not use. -/
theorem Format.row_selects_iff (fmt : Format) (op : Byte) (w : Word) :
    (fmt.row op).selects w = true ↔
      (fieldsOf w).op = op ∧ (fieldsOf w).rsv = 0#8 ∧ (fieldsOf w).imm &&& fmt.mustBeZero = 0#16 := by
  have hall (b : Byte) : b &&& 0xFF#8 = b := BitVec.and_allOnes
  conv_lhs => rw [← wordOf_fieldsOf w]
  simp only [Row.selects, row, wordOf_and, beq_iff_eq, wordOf_injective.eq_iff, Fields.mk.injEq, hall]

/-- An operation's row is its OP's. -/
theorem rowOf_eq_row (i : Instr) : ∃ fmt, formatOf i.fields.op = some fmt ∧ rowOf i = fmt.row i.fields.op := by
  cases i <;> refine ⟨_, rfl, ?_⟩ <;> dsimp only [rowOf, Instr.fields] <;> decide

/-- An operation's row selects the well-formed words with its OP. -/
theorem rowOf_selects_iff (i : Instr) (w : Word) :
    (rowOf i).selects w = true ↔ (fieldsOf w).op = i.fields.op ∧ (fieldsOf w).wellFormed = true := by
  obtain ⟨fmt, hfmt, hrow⟩ := rowOf_eq_row i
  rw [hrow, Format.row_selects_iff, Fields.wellFormed_iff]
  refine and_congr_right fun hop => ?_
  simp [hop, hfmt]

/-- An OP of the table names an operation of its row, whatever IMM is. -/
theorem operationOf_op (i : Instr) (imm : Half) : ∃ j, operationOf i.fields.op imm = some j ∧ rowOf j = rowOf i := by
  cases i <;> exact ⟨_, rfl, rfl⟩

/-- A word an operation's row selects decodes to an operation of that row. -/
theorem decode_of_rowOf_selects {i : Instr} {w : Word} (h : (rowOf i).selects w = true) :
    ∃ j, decode w = .ok j ∧ rowOf j = rowOf i := by
  obtain ⟨hop, hwf⟩ := (rowOf_selects_iff i w).mp h
  obtain ⟨j, hj, hrow⟩ := operationOf_op i (fieldsOf w).imm
  exact ⟨j, (decodeFields_eq_ok_iff _ _).mpr ⟨hwf, by rw [hop, hj]⟩, hrow⟩

/-- A word that decodes is selected by its operation's row. -/
theorem rowOf_selects_of_decode {w : Word} {i : Instr} (h : decode w = .ok i) : (rowOf i).selects w = true := by
  rw [← encode_of_decode h]
  exact (encodesItsRow i).2

/-- One operation of each row of R62, in the table's order. -/
def rowOperations : List Instr :=
  [.cfgRetry 0, .cfgPec false false, .cfgTmo 0, .setBase 0, .setLen 0, .setIlen 0, .pecClr, .pecUpd 0, .pecAdw, .pecAdr,
    .pecChk 0, .xfW, .xfWr, .dfWr, .dfRd, .abort]

theorem rows_eq_map_rowOf : rows = rowOperations.map rowOf := rfl

/-- The rows' OP values are distinct. -/
theorem rowOperations_pairwise_op : rowOperations.Pairwise (fun i j => i.fields.op ≠ j.fields.op) := by decide

/-- No word is selected by two rows: it would have the OP of both. -/
theorem rows_pairwise_disjoint : rows.Pairwise (fun a b => ∀ w, ¬(a.selects w = true ∧ b.selects w = true)) := by
  rw [rows_eq_map_rowOf, List.pairwise_map]
  refine rowOperations_pairwise_op.imp fun {i j} hne w ⟨hi, hj⟩ => hne ?_
  calc i.fields.op
    _ = (fieldsOf w).op := ((rowOf_selects_iff i w).mp hi).1.symm
    _ = j.fields.op := ((rowOf_selects_iff j w).mp hj).1

/-- Every operation's row is one of the 16. -/
theorem rowOf_mem_rows (i : Instr) : rowOf i ∈ rows := by
  cases i <;> simp [rows, rowOf]

/-- A word no row selects does not decode (R69). -/
theorem decode_of_undefinedWord {w : Word} (h : UndefinedWord w) : ∃ e, decode w = .error e := by
  cases hd : decode w with
  | error e => exact ⟨e, rfl⟩
  | ok i => exact absurd (rowOf_selects_of_decode hd) (by simp [h _ (rowOf_mem_rows i)])

end Sys2Proof

namespace Sys2Proof.Machine

/-- A presented word that does not decode is reported as undefined, unless it is not accepted while BUSY (R69, R90). -/
theorem step_of_decode_error {s : State} {w : Word} {rest : List Input} {e : Undefined}
    (hi : s.inputs = .command w :: rest) (hd : decode w = .error e) :
    step s = acceptUnlessBusy { s with inputs := rest } (reportError .protocolViolation { s with inputs := rest }) := by
  rw [step_cons hi]
  simp only [perform, presentWord, hd, undefinedWord]

end Sys2Proof.Machine

namespace Sys2Proof.Proofs

open Sys2Proof.Machine Sys2Proof.Claims

/-- Settles O2: the fields of an operation are well-formed, and OP and IMM name it. -/
theorem decodeInvertsEncode : Obligations.DecodeInvertsEncode := decode_encode

/-- Settles O3: a word's checks leave no bit of it outside OP and the operand. -/
theorem encodeInvertsDecode : Obligations.EncodeInvertsDecode := fun _ _ => encode_of_decode

/-- Settles O4: a row selects exactly the well-formed words with its OP, and the OP values are distinct. -/
theorem opcodeMapSelectsByMatchAndMask : Obligations.OpcodeMapSelectsByMatchAndMask := by
  refine ⟨rfl, rowOf_mem_rows, rows_pairwise_disjoint, fun w i => rowOf_selects_of_decode, fun w r hr hw => ?_⟩
  obtain ⟨i, -, rfl⟩ := List.mem_map.mp (rows_eq_map_rowOf ▸ hr)
  exact decode_of_rowOf_selects hw

/-- Settles O6: a word no row selects does not decode, so the step presents an undefined word. -/
theorem undefinedWordReportsProtocolViolation : Obligations.UndefinedWordReportsProtocolViolation := by
  intro s w rest hi hw
  obtain ⟨e, hd⟩ := decode_of_undefinedWord hw
  rw [step_of_decode_error hi hd]
  exact ⟨fun hb => if_neg (Bool.eq_false_iff.mp hb), fun hb => if_pos hb⟩

/-- Settles O1: each word is decoded as it stands. -/
theorem specWordsDecode : Obligations.SpecWordsDecode := by
  unfold Obligations.SpecWordsDecode
  decide

end Sys2Proof.Proofs

/-! ### A chunk's frame -/

namespace Sys2Proof.Machine

/-- The two address bytes are the address, low byte first (R44). -/
theorem lo8_add_hi8 (a : Half) : (lo8 a).toNat + 256 * (hi8 a).toNat = a.toNat := by
  have ha : a.toNat < 65536 := a.isLt
  simp only [lo8, hi8, BitVec.extractLsb'_toNat, Nat.shiftRight_eq_div_pow]
  omega

/-- A chunk's address is the 16-bit sum of BASE and OFF (R162). -/
theorem chunkAddress_toNat (s : State) : (chunkAddress s).toNat = (s.base.toNat + s.off.toNat) % 65536 :=
  BitVec.toNat_add s.base s.off

/-- The frame of R63 written out: four bytes, then the data. -/
theorem macFrame_eq (p : Params) (a : Half) (data : List Byte) :
    macFrame p a data = [p.cmdMac, BitVec.ofNat 8 (data.length + 2), lo8 a, hi8 a] ++ data := rfl

/-- The frame of R63 has four bytes before its data. -/
theorem macFrame_length (p : Params) (a : Half) (data : List Byte) : (macFrame p a data).length = 4 + data.length := by
  simp [macFrame_eq]; omega

end Sys2Proof.Machine

namespace Sys2Proof.Proofs

open Sys2Proof.Machine

/-- Settles O58: R63's frame at the chunk's address, with as many bytes of OBUF as the chunk has. -/
theorem chunkFrameLayout : Obligations.ChunkFrameLayout := by
  intro s
  refine ⟨lo8 (chunkAddress s), hi8 (chunkAddress s), ?_, ?_, ?_⟩
  · rw [chunkFrame, macFrame_eq, memRead_length]; rfl
  · rw [lo8_add_hi8, chunkAddress_toNat]
  · rw [chunkFrame, macFrame_length, memRead_length]; rfl

end Sys2Proof.Proofs

/-! ### Acceptance -/

namespace Sys2Proof.Machine

/-- An operation the port accepts has its effect (R90). -/
theorem exec_of_accepted {i : Instr} {s : State} (h : s.busy = true → Instr.acceptedWhileBusy i = true) :
    exec i s = .next (effectOf i s) := by
  rw [exec_eq, if_neg (by simpa using h)]

/-- When not BUSY every operation has its effect. -/
theorem exec_of_not_busy (i : Instr) {s : State} (hb : s.busy = false) : exec i s = .next (effectOf i s) :=
  exec_of_accepted fun h => absurd h (by simp [hb])

/-- While BUSY an operation other than CFG.* and ABORT is refused (R90, U7). -/
theorem exec_of_not_accepted {i : Instr} {s : State} (hb : s.busy = true) (ha : Instr.acceptedWhileBusy i = false) :
    exec i s = .refused .wordNotAccepted := by
  rw [exec_eq, if_pos (by simp [hb, ha])]

end Sys2Proof.Machine

namespace Sys2Proof.Proofs

open Sys2Proof.Machine Sys2Proof.Claims

/-- Settles O7: acceptance is by BUSY and the decoded operation alone, which the schedule does not enter; a word that does not
decode is never accepted while BUSY. -/
theorem unacceptedWordIsRefused : Obligations.UnacceptedWordIsRefused := by
  intro s w rest hi
  constructor
  · intro hb ha
    cases hd : decode w with
    | ok i =>
      rw [stepRunsTheDecodedOperation s w rest i hi hd]
      exact exec_of_not_accepted hb (ha i hd)
    | error e =>
      rw [step_of_decode_error hi hd]
      exact if_pos hb
  · intro i hd ha
    have he : exec i { s with inputs := rest } = .next (effectOf i { s with inputs := rest }) := exec_of_accepted ha
    exact ⟨_, he, (stepRunsTheDecodedOperation s w rest i hi hd).trans he⟩

/-- Settles O9: each word is its operation's `encode`, and the operation is accepted whether BUSY or not. -/
theorem configOperationsWriteCfg : Obligations.ConfigOperationsWriteCfg := by
  intro s
  exact ⟨fun imm8 => ⟨decode_encode (.cfgRetry imm8), exec_of_accepted fun _ => rfl⟩,
    fun r w => ⟨decode_encode (.cfgPec r w), exec_of_accepted fun _ => rfl⟩,
    fun imm16 => ⟨decode_encode (.cfgTmo imm16), exec_of_accepted fun _ => rfl⟩⟩

/-- Settles O11: each word is its operation's `encode`, and the operation is accepted exactly when not BUSY. -/
theorem operandOperationsWriteTheirRegister : Obligations.OperandOperationsWriteTheirRegister := by
  intro s imm16
  refine ⟨⟨decode_encode (.setBase imm16), decode_encode (.setLen imm16), decode_encode (.setIlen imm16)⟩, fun hb => ?_,
    fun hb => ?_⟩
  · exact ⟨exec_of_not_busy (.setBase imm16) hb, exec_of_not_busy (.setLen imm16) hb, exec_of_not_busy (.setIlen imm16) hb⟩
  · exact ⟨exec_of_not_accepted hb rfl, exec_of_not_accepted hb rfl, exec_of_not_accepted hb rfl⟩

end Sys2Proof.Proofs

/-! ### ABORT -/

namespace Sys2Proof.Machine

section
variable {s : State}

/-- When not BUSY ABORT clears the report and does nothing else (R97). -/
theorem exec_abort_of_not_busy (hb : s.busy = false) : exec .abort s = .next (clearReport s) := by
  rw [exec_of_not_busy .abort hb]
  simp [effectOf, engineReady, hb]

/-- With a port request outstanding ABORT ends the operation (R97, D23). -/
theorem exec_abort_of_waiting (hb : s.busy = true) (hp : s.seq.phase ≠ .idle) :
    exec .abort s = .next (cancelOperation s) := by
  rw [exec_of_accepted fun _ => rfl]
  simp [effectOf, engineReady, hb, hp]

/-- Between two attempts ABORT waits on the command port while ENGINE takes its turn (log entry 20). -/
theorem exec_abort_of_ready (hr : engineReady s = true) :
    exec .abort s = .next (presentNext (encode .abort) (issueNext s)) := by
  rw [exec_of_accepted fun _ => rfl, effectOf, if_pos hr]

/-- An operation ended in ATTEMPT: its outstanding request shows outcome Cancelled. -/
theorem cancelOperation_of_attempt (hp : s.seq.phase = .attempt) :
    cancelOperation s =
      { s with
        status := { state := .idle, err := .none }
        seq := Seq.idle
        scratch := Scratch.empty
        trace := settleNewest .cancelled s.trace } := by
  rw [cancelOperation, abandonRequest, if_pos hp]
  rfl

/-- An operation ended with no bus request outstanding: the trace stays. -/
theorem cancelOperation_of_not_attempt (hp : s.seq.phase ≠ .attempt) :
    cancelOperation s =
      { s with status := { state := .idle, err := .none }, seq := Seq.idle, scratch := Scratch.empty } := by
  rw [cancelOperation, abandonRequest, if_neg hp]
  rfl

end

/-- ENGINE's s1 appends one event (R53). -/
theorem issueNext_trace_length (s : State) : (issueNext s).trace.length = s.trace.length + 1 := by
  rw [issueNext, beginTransaction_trace, List.length_cons]

end Sys2Proof.Machine

namespace Sys2Proof.Proofs

open Sys2Proof.Machine Sys2Proof.Claims

/-- Settles O12: `clearReport` when not BUSY and `cancelOperation` with a request outstanding; between two attempts ENGINE's turn
gives a state in ATTEMPT, in which the waiting word is such a `cancelOperation`. -/
theorem abortEndsTheOperation : Obligations.AbortEndsTheOperation := by
  intro s rest
  refine ⟨decode_encode .abort, exec_abort_of_not_busy, fun hb hp => ?_, fun hb hp => ?_, fun hb hp => ?_⟩
  · rw [exec_abort_of_waiting hb (by simp [hp]), cancelOperation_of_attempt hp]
  · rw [exec_abort_of_waiting hb (by simp [hp]), cancelOperation_of_not_attempt (by simp [hp])]
  · have hr : engineReady s = true := (engineReady_iff s).mpr ⟨(busy_iff s).mp hb, hp⟩
    have hissue := issueNext_withInputs s rest
    have hphase : (issueNext s).seq.phase = .attempt := by simp
    have hbusy : (issueNext s).busy = true := by simpa [State.busy] using hb
    have hcancel : exec .abort { issueNext s with inputs := rest } =
        .next (cancelOperation { issueNext s with inputs := rest }) :=
      exec_abort_of_waiting hbusy (by simp)
    refine ⟨{ issueNext s with inputs := rest }, cancelOperation { issueNext s with inputs := rest }, ?_, hphase, ?_, ?_,
      cancelOperation_of_attempt hphase, ?_, ?_, ?_, ?_, ?_⟩
    · rw [step_engine s rest hr, hissue]
    · rw [exec_abort_of_ready (s := { s with inputs := rest }) hr, hissue]
      rfl
    · exact (stepRunsTheDecodedOperation _ _ rest .abort rfl (decode_encode .abort)).trans hcancel
    · simp [settleNewest_length, issueNext_trace_length]
    all_goals simp

end Sys2Proof.Proofs

/-! ### ENGINE's turn, and waiting -/

namespace Sys2Proof.Machine

open Sys2Proof.Claims

/-- With nothing scheduled ENGINE takes its turn s1 if it has one, and else the block waits (R117, R118). -/
theorem step_of_no_inputs {s : State} (hi : s.inputs = []) :
    step s = .next (if engineReady s then issueNext s else s) := by
  simp [step, hi]

/-- A run of the machine takes one step and goes on from there. -/
theorem run_succ {s t : State} (n : Nat) (h : step s = .next t) :
    Host.Core.run Sys2Proof.core (n + 1) s = Host.Core.run Sys2Proof.core n t := by
  have hc : Sys2Proof.core.step s = .next t := h
  simp only [Host.Core.run, hc]

section
variable {s : State}

/-- s1 of XF.W writes OBUF[0..LEN] (R145). -/
theorem issueNext_xfw (hk : s.seq.opk = .xfw) :
    issueNext s = writeIssued s (memRead s .obuf 0#16 s.len.toNat) := by
  simp only [issueNext, callOf, hk, beginTransaction_write]

/-- s1 of XF.WR requests ILEN bytes with OBUF[0..LEN] (R146). -/
theorem issueNext_xfwr (hk : s.seq.opk = .xfwr) :
    issueNext s = readIssued s (memRead s .obuf 0#16 s.len.toNat) s.ilen.toNat := by
  simp only [issueNext, callOf, hk, beginTransaction_read]

/-- s1 of DF.WR writes chunk OFF / 32, for OFF is a multiple of 32 (R161, R170). -/
theorem issueNext_dfwr (hk : s.seq.opk = .dfwr) (h : ProgressOk s) :
    issueNext s = writeIssued s (chunkPayload s (s.off.toNat / 32)) := by
  have hal : s.off.toNat % 32 = 0 := h.aligned (.inl hk)
  have hc : chunkFrame s = chunkPayload s (s.off.toNat / 32) :=
    chunkFrame_eq_chunkPayload s s _ rfl rfl rfl (by omega) (h.total (.inl hk))
  simp only [issueNext, callOf, hk, beginTransaction_write, hc]

/-- s1 of DF.RD in stage SEL writes the select frame (R64, R176). -/
theorem issueNext_select (hk : s.seq.opk = .dfrd) (hg : s.seq.stage = .sel) :
    issueNext s = writeIssued s (selectPayload s) := by
  simp only [issueNext, callOf, hk, hg, beginTransaction_write, selectFrame_eq_selectPayload s s rfl rfl]

/-- s1 of DF.RD in stage BLK requests a block read (R65, R177). -/
theorem issueNext_block (hk : s.seq.opk = .dfrd) (hg : s.seq.stage = .blk) :
    issueNext s =
      readIssued s [s.params.cmdMac] (3 + if s.params.rdFullFrame then 32 else min 32 s.rem.toNat) := by
  simp only [issueNext, callOf, hk, hg, beginTransaction_read]
  rfl

end

end Sys2Proof.Machine

namespace Sys2Proof.Proofs

open Sys2Proof.Machine Sys2Proof.Claims

/-- Settles O59: a waiting step gives the state back, so every run does; with an attempt to issue the step is `issueNext`, as
ENGINE's turn is. -/
theorem noInputMeansWaiting : Obligations.NoInputMeansWaiting := by
  intro s hi
  have hstep := step_of_no_inputs hi
  refine ⟨fun hr n => ?_, fun hr => ?_⟩
  · have hwait : step s = .next s := by simpa [hr] using hstep
    induction n with
    | zero => rfl
    | succ n ih => rw [run_succ n hwait, ih]
  · rw [step_engine s [] hr, hstep, if_pos hr, ← hi]

/-- Settles O24: the turn is `issueNext` at the state whose schedule has moved on, which the schedule does not enter, and what it
issues is said for each running operation. -/
theorem engineIssuesTheNextAttempt : Obligations.EngineIssuesTheNextAttempt := by
  rintro s u rest h hb hp hi rfl
  have hstep : step s = .next { issueNext s with inputs := rest } := by
    rw [← issueNext_withInputs s rest]
    exact step_of_inputOk hi ((engineReady_iff s).mpr ⟨hb, hp⟩)
  refine ⟨fun hk => ?_, fun hk => ?_, fun hk => ?_, fun hk hg => ?_, fun hk hg => ?_⟩
  · rw [hstep, issueNext_xfw hk]; rfl
  · rw [hstep, issueNext_xfwr hk]; rfl
  · rw [hstep, issueNext_dfwr hk h.progress]; rfl
  · rw [hstep, issueNext_select hk hg]; rfl
  · rw [hstep, issueNext_block hk hg]; rfl

end Sys2Proof.Proofs

/-! ### A failed attempt -/

namespace Sys2Proof.Machine

open Sys2Proof.Claims

/-- The failure R115 names for a failing answer: of bytes that fail the attempt it is the mismatch. -/
def namedFailure : BusOutcome → Failure
  | .busError c => .bus c
  | .timeout => .tmo
  | .ok _ => .mismatch

theorem failureOf_eq_namedFailure {s : State} {o : BusOutcome} (h : failureOf s o ≠ none) :
    failureOf s o = some (namedFailure o) := by
  obtain ⟨f, hf⟩ := Option.ne_none_iff_exists'.mp h
  obtain ⟨c, rfl, rfl⟩ | ⟨rfl, rfl⟩ | ⟨inp, rfl, rfl, -⟩ := failureOf_cases hf <;> exact hf

/-- A failing answer steps to what follows a failed attempt (R118 s2, s3). -/
theorem step_of_failing {s : State} {o : BusOutcome} {rest : List Input} (h : FailingAnswer s o)
    (hi : s.inputs = .busAnswer o :: rest) :
    step s = .next (afterFailure (namedFailure o) (answered o { s with inputs := rest })) := by
  obtain ⟨hok, hf⟩ := (failingAnswer_iff s o).mp h
  have hf' : failureOf { s with inputs := rest } o = some (namedFailure o) :=
    (failureOf_congr o rfl rfl rfl).trans (failureOf_eq_namedFailure hf)
  rw [step_of_inputOk (i := .busAnswer o) hi hok, turnEffect, completeAttempt, hf']

/-- A passing answer steps to what follows a success (R118 s2). -/
theorem step_of_passing {s : State} {o : BusOutcome} {rest : List Input} (h : PassingAnswer s o)
    (hi : s.inputs = .busAnswer o :: rest) :
    step s = .next
      (afterSuccess (payloadOf { s with inputs := rest } o) (releaseBuffers (answered o { s with inputs := rest }))) := by
  obtain ⟨hok, hf⟩ := (passingAnswer_iff s o).mp h
  have hf' : failureOf { s with inputs := rest } o = none := (failureOf_congr o rfl rfl rfl).trans hf
  rw [step_of_inputOk (i := .busAnswer o) hi hok, turnEffect, completeAttempt, hf']

/-- With budget left a failed attempt consumes one retry and requests one backoff (R115). -/
theorem afterFailure_of_budget (f : Failure) {s : State} (hr : s.retry ≠ 0#8) :
    afterFailure f s =
      { s with
        retry := s.retry - 1#8
        seq := { s.seq with phase := .backoff }
        trace := .d s.params.backoffMs :: s.trace } := if_neg hr

/-- With none its error ends the operation (R116, R200). -/
theorem afterFailure_of_exhausted (f : Failure) {s : State} (hr : s.retry = 0#8) :
    afterFailure f s =
      { s with
        status := { state := .err, err := f.raised.kind }
        cause := f.raised.causeAfter s.cause
        seq := Seq.idle
        scratch := Scratch.empty } := if_pos hr

/-- RXB once the outcome is in: the bytes the port brought, if it brought any (R23). -/
def rxbAfter (s : State) : BusOutcome → List Byte
  | .ok data => data
  | .busError _ => s.scratch.rxb
  | .timeout => s.scratch.rxb

/-- All an outcome writes: CRC and Z, RXB, its event, and PHASE. -/
theorem answered_eq (o : BusOutcome) (s : State) :
    answered o s =
      { s with
        crc := (answered o s).crc
        z := (answered o s).z
        seq := { s.seq with phase := .idle }
        scratch := { s.scratch with rxb := rxbAfter s o }
        trace := settleNewest o.shown s.trace } := by
  cases o with
  | ok data =>
    simp only [answered, receive, afterCheck]
    split <;> rfl
  | busError c => rfl
  | timeout => rfl

/-- With no answer CRC and Z are as R140 and R141 say an unanswered attempt leaves them. -/
theorem answered_of_unanswered {s : State} {o : BusOutcome} (h : ∀ data, o ≠ .ok data) :
    (answered o s).crc = crcUnanswered s ∧ (answered o s).z = s.z := by
  have ha := answered_of_failure (s := s) h
  simpa only [crcUnanswered, checksRead_iff] using ha

/-- The checksum `CheckR` recomputes, written out (R134, R141). -/
theorem readCrc_eq (s : State) (data : List Byte) :
    readCrc s data =
      crc8 ([addrWrite s.params] ++ s.scratch.call.out ++ [addrRead s.params] ++ data.take s.scratch.call.nin) := by
  simp [readCrc, coverWR]

/-- A checked in-frame leaves the recomputed checksum in CRC and the comparison's result in Z (R12, R141). -/
theorem answered_of_checked {s : State} (data : List Byte) (hc : checksRead s = true) :
    (answered (.ok data) s).crc = readCrc s data ∧
      (answered (.ok data) s).z = matchFlag (readCrc s data) (trailingByte s data) := by
  have ha : answered (.ok data) s =
      { s with
        seq := { s.seq with phase := .idle }
        trace := settleNewest (.ok data) s.trace
        scratch := { s.scratch with rxb := data }
        crc := readCrc s data
        z := matchFlag (readCrc s data) (trailingByte s data) } := if_pos hc
  rw [ha]
  exact ⟨rfl, rfl⟩

/-- A mismatch leaves Z = 0 (R12, R141). -/
theorem answered_of_mismatch {s : State} {data : List Byte} (h : FailingAnswer s (.ok data)) :
    (answered (.ok data) s).z = false ∧
      (answered (.ok data) s).crc =
        crc8 ([addrWrite s.params] ++ s.scratch.call.out ++ [addrRead s.params] ++ data.take s.scratch.call.nin) := by
  obtain ⟨hok, ⟨c, ⟨⟩⟩ | ⟨⟨⟩⟩ | ⟨data, ⟨⟩, hk, hp, hv⟩⟩ := h
  have hc : checksRead s = true := (checksRead_iff s).mpr ⟨hk, hp⟩
  obtain ⟨hcrc, hz⟩ := answered_of_checked data hc
  exact ⟨by rw [hz, Bool.eq_false_iff, Ne, matchFlag_readCrc_iff hc (hok.2.1 data rfl)]; exact hv, by rw [hcrc, readCrc_eq]⟩

end Sys2Proof.Machine

namespace Sys2Proof.Proofs

open Sys2Proof.Machine Sys2Proof.Claims

/-- Settles O29: the step is `afterFailure` with budget left, at the state `answered_eq` writes out. -/
theorem failedAttemptConsumesOneRetry : Obligations.FailedAttemptConsumesOneRetry := by
  intro s o rest h hr hi
  refine ⟨(answered o { s with inputs := rest }).crc, (answered o { s with inputs := rest }).z, rxbAfter s o, ?_, ?_⟩
  · rw [step_of_failing h hi, afterFailure_of_budget _ (by simpa using hr), answered_eq]
    rfl
  · cases o with
    | busError c =>
      obtain ⟨hcrc, hz⟩ := answered_of_unanswered (s := { s with inputs := rest }) (o := .busError c) (by simp)
      exact ⟨hcrc, hz, rfl⟩
    | timeout =>
      obtain ⟨hcrc, hz⟩ := answered_of_unanswered (s := { s with inputs := rest }) (o := .timeout) (by simp)
      exact ⟨hcrc, hz, rfl⟩
    | ok data =>
      obtain ⟨hz, hcrc⟩ := answered_of_mismatch (s := { s with inputs := rest }) h
      exact ⟨hz, rfl, hcrc⟩

/-- Settles O30: the step is `afterFailure` with no budget left, which raises the failure's error. -/
theorem exhaustedBudgetRaisesTheLastFailure : Obligations.ExhaustedBudgetRaisesTheLastFailure := by
  intro s o rest h hr hi
  refine ⟨(namedFailure o).raised.kind, (namedFailure o).raised.causeAfter s.cause,
    (answered o { s with inputs := rest }).crc, (answered o { s with inputs := rest }).z, ?_, ?_⟩
  · rw [step_of_failing h hi, afterFailure_of_exhausted _ (by simpa using hr), answered_eq]
  · cases o with
    | busError c => exact ⟨rfl, rfl, answered_of_unanswered (s := { s with inputs := rest }) (by simp)⟩
    | timeout => exact ⟨rfl, rfl, answered_of_unanswered (s := { s with inputs := rest }) (by simp)⟩
    | ok data => exact ⟨rfl, rfl, answered_of_mismatch (s := { s with inputs := rest }) h⟩

end Sys2Proof.Proofs

/-! ### Reissues, and whole transactions -/

namespace Sys2Proof.Machine

open Sys2Proof.Claims

/-- Reissuing a call whose frame stands in TXB, and whose PEC byte in CRC if it is a protected write, changes what an attempt
changes and builds nothing anew (R120). -/
theorem issueAttempt_eq_reissue {s : State} (htxb : s.scratch.txb = frameOf s)
    (hcrc : s.scratch.call.kind = .w → s.cfgs.pecOnWrite = true → s.crc = crc8 (coverW s.params s.scratch.call.out)) :
    issueAttempt s =
      { s with
        crc := if s.scratch.call.kind = .wr ∧ s.cfgs.pecOnRead = true then 0x00#8 else s.crc
        seq := { s.seq with phase := .attempt }
        scratch := { s.scratch with rxb := [], heldCrc := s.crc }
        trace := requestEvent s :: s.trace } := by
  unfold issueAttempt
  cases hk : s.scratch.call.kind with
  | w =>
    have hf : buildFrame s s.scratch.call.out = s.scratch.txb := by simp [htxb, frameOf, hk]
    have hc : buildCrc s s.scratch.call.out = s.crc := by
      unfold buildCrc
      split
      · exact (hcrc hk ‹_›).symm
      · rfl
    simp [emit, requestEvent, hk, hf, hc]
  | wr =>
    have hf : s.scratch.call.out = s.scratch.txb := by simp [htxb, frameOf, hk]
    simp [emit, requestEvent, hk, ← hf, checksRead, Config.pecInit]

end Sys2Proof.Machine

namespace Sys2Proof.Proofs

open Sys2Proof.Machine Sys2Proof.Claims

/-- Settles O31: the delay's end is `issueAttempt`, to which the invariant brings the frame in TXB and the PEC byte in CRC; OBUF
does not enter. -/
theorem retryReissuesIdentically : Obligations.RetryReissuesIdentically := by
  intro s m rest h hp
  have hw : s.seq.phase ≠ .idle := by simp [hp]
  have hok : InputOk { s with obuf := m, inputs := .delayDone :: rest } .delayDone :=
    (outstanding_iff _ .backoff).mpr ⟨h.busy_of_waiting hw, hp⟩
  have hissue := issueAttempt_eq_reissue (s := { s with obuf := m, inputs := rest, seq := { s.seq with phase := .idle } })
    (h.buffers.txbIsFrame hw) (h.buffers.crcIsPec hw)
  exact (step_of_inputOk rfl hok).trans (congrArg _ hissue)

end Sys2Proof.Proofs

namespace Sys2Proof.Machine

open Sys2Proof.Claims Sys2Proof.Proofs

/-- `t` is the attempt waiting in `s` again, after the failing answers `fails` and their backoffs (R120, R121): RETRY is as many
less, and the trace shows the failed attempts, the delays and the outstanding reissue. CRC, Z, RXB and the CRC held apart,
everything else is as in `s`. -/
def Retried (s : State) (fails : List BusOutcome) (rest : List Input) (t : State) : Prop :=
  t = { s with
    inputs := rest
    retry := s.retry - BitVec.ofNat 8 fails.length
    crc := t.crc
    z := t.z
    scratch := { s.scratch with rxb := t.scratch.rxb, heldCrc := t.scratch.heldCrc }
    trace := requestEvent s :: ((retryEvents (requestEvent s) s.params.backoffMs fails).reverse ++ s.trace.tail) }

section
variable {s t u : State} {fails fails' : List BusOutcome} {rest rest' : List Input}

/-- The waiting attempt, with no answer yet. -/
theorem Retried.refl (h : Inv s) (hp : s.seq.phase = .attempt) : Retried s [] s.inputs s := by
  simp [Retried, retryEvents, ← h.trace_of_attempt hp]

/-- Retries after retries. -/
theorem Retried.trans (h : Retried s fails rest t) (h' : Retried t fails' rest' u) :
    Retried s (fails ++ fails') rest' u := by
  have hr : s.retry - BitVec.ofNat 8 fails.length - BitVec.ofNat 8 fails'.length =
      s.retry - BitVec.ofNat 8 (fails ++ fails').length := by
    rw [List.length_append, BitVec.ofNat_add, BitVec.sub_sub]
  have hreq : requestEvent t = requestEvent s := by rw [h]; rfl
  have hms : t.params = s.params := by rw [h]
  rw [Retried, hreq, hms] at h'
  rw [Retried, h', ← hr]
  rw [Retried] at h
  rw [h]
  simp [retryEvents]

section
variable (h : Retried s fails rest t)
include h

theorem Retried.inputs_eq : t.inputs = rest := by rw [h]

theorem Retried.seq_eq : t.seq = s.seq := by rw [h]

theorem Retried.trace_eq :
    t.trace = requestEvent s :: ((retryEvents (requestEvent s) s.params.backoffMs fails).reverse ++ s.trace.tail) := by
  rw [h]

/-- Failed attempts store nothing and count nothing (R142). -/
theorem Retried.progress_eq : t.ibuf = s.ibuf ∧ t.off = s.off ∧ t.rem = s.rem := by
  rw [h]
  exact ⟨rfl, rfl, rfl⟩

/-- A further answer fails the reissued attempt iff it fails the first one: the call and the snapshot are the same. -/
theorem Retried.failingAnswer_iff (o : BusOutcome) : FailingAnswer t o ↔ FailingAnswer s o := by
  rw [h]
  exact Iff.rfl

/-- And so with an answer that passes. -/
theorem Retried.passingAnswer_iff (o : BusOutcome) : PassingAnswer t o ↔ PassingAnswer s o := by
  rw [h]
  exact Iff.rfl

theorem Retried.retry_toNat (hle : fails.length ≤ s.retry.toNat) :
    t.retry.toNat = s.retry.toNat - fails.length := by
  have hr : t.retry = s.retry - BitVec.ofNat 8 fails.length := by rw [h]
  have hlt := s.retry.isLt
  rw [hr, BitVec.toNat_sub, BitVec.toNat_ofNat]
  omega

end

/-- One failing answer with budget left, and the end of its backoff (R118 s2 to s4). -/
theorem retry_once {o : BusOutcome} (h : Inv s) (hp : s.seq.phase = .attempt) (hr : s.retry ≠ 0#8)
    (ho : FailingAnswer s o) (hi : s.inputs = .busAnswer o :: .delayDone :: rest) :
    ∃ a t, step s = .next a ∧ step a = .next t ∧ Inv t ∧ Retried s [o] rest t := by
  obtain ⟨crc, z, rxb, hs, -⟩ := failedAttemptConsumesOneRetry s o _ ho hr hi
  have ha := stepKeepsTheInvariant s _ h hs
  have ht := retryReissuesIdentically _ s.obuf rest ha rfl
  refine ⟨_, _, hs, ht, stepKeepsTheInvariant _ _ ha ht, ?_⟩
  have htrace : settleNewest o.shown s.trace = (requestEvent s).settle o.shown :: s.trace.tail := by
    rw [h.trace_of_attempt hp]
    rfl
  have hseq : { s.seq with phase := .attempt } = s.seq := by rw [← hp]
  simp only [Retried, htrace, hseq]
  rfl

/-- Failing answers up to the budget left, each with the end of its backoff: a run goes through them to the reissued attempt. -/
theorem run_retries (n : Nat) (h : Inv s) (hp : s.seq.phase = .attempt) (hle : fails.length ≤ s.retry.toNat)
    (hf : ∀ f ∈ fails, FailingAnswer s f) (hi : s.inputs = retryInputs fails ++ rest) :
    ∃ t, Host.Core.run Sys2Proof.core (2 * fails.length + n) s = Host.Core.run Sys2Proof.core n t ∧ Inv t ∧
      Retried s fails rest t := by
  induction fails generalizing s with
  | nil =>
    obtain rfl : s.inputs = rest := hi
    exact ⟨s, by simp, h, Retried.refl h hp⟩
  | cons f fails ih =>
    obtain ⟨hf, hfs⟩ := List.forall_mem_cons.mp hf
    rw [List.length_cons] at hle
    have hr : s.retry ≠ 0#8 := by
      rintro hr
      simp [hr] at hle
    obtain ⟨a, t, hsa, hat, hinv, h1⟩ := retry_once h hp hr hf (rest := retryInputs fails ++ rest) hi
    have hret := h1.retry_toNat (by simp; omega)
    have hpt : t.seq.phase = .attempt := by rw [h1.seq_eq, hp]
    obtain ⟨u, hrun, hinvu, hu⟩ := ih hinv hpt (by simp at hret; omega)
      (fun g hg => (h1.failingAnswer_iff g).mpr (hfs g hg)) h1.inputs_eq
    have hlen : 2 * (f :: fails).length + n = 2 * fails.length + n + 1 + 1 := by
      rw [List.length_cons]
      omega
    refine ⟨u, ?_, hinvu, h1.trans hu⟩
    rw [hlen, run_succ _ hsa, run_succ _ hat, hrun]

/-- The loop's head leaves no request outstanding; the operation is DONE, or STATUS stays. -/
theorem continueLoop_phase_status (hp : s.seq.phase = .idle) :
    (continueLoop s).seq.phase = .idle ∧
      ((continueLoop s).status = { state := .done, err := .none } ∨ (continueLoop s).status = s.status) := by
  obtain ⟨-, he⟩ | ⟨-, he⟩ := continueLoop_cases s <;> rw [he]
  · exact ⟨rfl, .inl rfl⟩
  · exact ⟨hp, .inr rfl⟩

/-- So does a success (R118 s2). -/
theorem afterSuccess_phase_status (data : List Byte) (hp : s.seq.phase = .idle) :
    (afterSuccess data s).seq.phase = .idle ∧
      ((afterSuccess data s).status = { state := .done, err := .none } ∨ (afterSuccess data s).status = s.status) := by
  cases hk : s.seq.opk with
  | none => rw [afterSuccess_none hk]; exact ⟨hp, .inr rfl⟩
  | xfw => rw [afterSuccess_xfw hk]; exact ⟨rfl, .inl rfl⟩
  | xfwr => rw [afterSuccess_xfwr hk]; exact ⟨rfl, .inl rfl⟩
  | dfwr => rw [afterSuccess_dfwr hk]; exact continueLoop_phase_status (s := advanceProgress _ s) hp
  | dfrd =>
    by_cases hg : s.seq.stage = .blk
    · rw [afterSuccess_block hk hg]; exact continueLoop_phase_status (s := storeChunk data s) hp
    · rw [afterSuccess_select hk hg]
      exact continueLoop_phase_status (s := { s with seq := { s.seq with stage := .blk } }) hp

/-- After a success a raw transfer is DONE (R145, R146). -/
theorem afterSuccess_status_of_raw (data : List Byte) (hk : s.seq.opk = .xfw ∨ s.seq.opk = .xfwr) :
    (afterSuccess data s).status = { state := .done, err := .none } := by
  obtain hk | hk := hk
  · rw [afterSuccess_xfw hk]; rfl
  · rw [afterSuccess_xfwr hk]; rfl

end

end Sys2Proof.Machine

namespace Sys2Proof.Proofs

open Sys2Proof.Machine Sys2Proof.Claims

/-- Settles O32: the failing answers lead to the reissued attempt by `run_retries`, and the passing one to what follows a success,
which appends no event and keeps RETRY. -/
theorem retriesSucceedWithinTheBudget : Obligations.RetriesSucceedWithinTheBudget := by
  intro s fails o rest h hp hbudget hle hf ho hi
  rw [← hbudget] at hle
  obtain ⟨t, hrun, hinv, ht⟩ := run_retries 0 h hp hle hf hi
  obtain ⟨hibuf, hoff, hrem⟩ := ht.progress_eq
  have hbusy : t.status.state = .busy := hinv.busy_of_waiting (by simp [ht.seq_eq, hp])
  have hstep := step_of_passing ((ht.passingAnswer_iff o).mpr ho) ht.inputs_eq
  obtain ⟨hphase, hstatus⟩ := afterSuccess_phase_status (payloadOf { t with inputs := rest } o)
    (s := releaseBuffers (answered o { t with inputs := rest })) (by simp)
  refine ⟨t, _, hrun, hstep, ?_, ?_, hibuf, hoff, hrem, ?_, hphase, ?_, ?_, ?_, fun hk => ?_⟩
  · rw [ht.retry_toNat hle, hbudget]
  · simp [ht.trace_eq]
  · obtain hd | hd := hstatus <;> simp [hd, hbusy]
  · simp
  · simp
  · simp [ht.trace_eq, settleNewest]
  · exact afterSuccess_status_of_raw _ (by simpa [ht.seq_eq] using hk)

/-- Settles O33: the failing answers use the budget up by `run_retries`, and the last one raises its error. -/
theorem retriesExhaustTheBudget : Obligations.RetriesExhaustTheBudget := by
  intro s fails o rest h hp hbudget hlen hf ho hi
  rw [← hbudget] at hlen
  obtain ⟨t, hrun, -, ht⟩ := run_retries 1 h hp hlen.le hf hi
  obtain ⟨hibuf, hoff, hrem⟩ := ht.progress_eq
  have hr : t.retry = 0#8 := BitVec.eq_of_toNat_eq (by rw [ht.retry_toNat hlen.le, hlen]; simp)
  obtain ⟨k, c, crc, z, hstep, hraised⟩ :=
    exhaustedBudgetRaisesTheLastFailure t o rest ((ht.failingAnswer_iff o).mpr ho) hr ht.inputs_eq
  refine ⟨_, hrun.trans (run_succ 0 hstep), rfl, rfl, hr, rfl, ?_, hibuf, hoff, hrem, ?_, ?_, ?_⟩
  · simp [ht.trace_eq, settleNewest]
  · rintro c rfl
    obtain ⟨hk, hc, -⟩ := hraised
    exact ⟨hk, hc⟩
  · rintro rfl
    exact hraised.1
  · rintro data rfl
    exact hraised.1

end Sys2Proof.Proofs

/-! ### The accumulator's operations -/

namespace Sys2Proof.Machine

/-- The comparison is equality of the two bytes (R139). -/
theorem matchFlag_eq_decide (c b : Byte) : matchFlag c b = decide (c = b) := by
  rw [Bool.eq_iff_iff, matchFlag_iff, decide_eq_true_iff]

/-- An address byte has the address in bits 7:1 and the direction in bit 0 (R133). -/
theorem addressByte_fields (a : BitVec 7) (d : Bool) :
    ((a.setWidth 8 <<< 1) ||| (BitVec.ofBool d).setWidth 8).extractLsb' 1 7 = a ∧
      ((a.setWidth 8 <<< 1) ||| (BitVec.ofBool d).setWidth 8).getLsbD 0 = d := by
  cases d <;> revert a <;> decide

end Sys2Proof.Machine

namespace Sys2Proof.Proofs

open Sys2Proof.Machine Sys2Proof.Claims

/-- Settles O13: each word is its operation's `encode`, and the operation is accepted exactly when not BUSY. -/
theorem accumulatorOperations : Obligations.AccumulatorOperations := by
  intro s
  refine ⟨⟨decode_encode .pecClr, fun imm8 => decode_encode (.pecUpd imm8), decode_encode .pecAdw, decode_encode .pecAdr⟩,
    fun hb => ?_, fun hb => ?_⟩
  · exact ⟨exec_of_not_busy .pecClr hb, fun imm8 => exec_of_not_busy (.pecUpd imm8) hb, exec_of_not_busy .pecAdw hb,
      exec_of_not_busy .pecAdr hb⟩
  · exact ⟨exec_of_not_accepted hb rfl, fun _ => exec_of_not_accepted hb rfl, exec_of_not_accepted hb rfl,
      exec_of_not_accepted hb rfl⟩

/-- Settles O14: the word is the operation's `encode`, its effect is the comparison, and it is accepted exactly when not BUSY. -/
theorem compareSetsMatchFlag : Obligations.CompareSetsMatchFlag := by
  intro s imm8
  refine ⟨decode_encode (.pecChk imm8), fun hb => ?_, fun hb => exec_of_not_accepted hb rfl⟩
  rw [exec_of_not_busy (.pecChk imm8) hb, effectOf, matchFlag_eq_decide]

/-- Settles O19: AW is the address byte with direction 0, AR the one with direction 1. -/
theorem addressDirectionBytes : Obligations.AddressDirectionBytes := by
  intro p
  obtain ⟨hw, hw0⟩ := addressByte_fields p.devAddr false
  obtain ⟨hr, hr0⟩ := addressByte_fields p.devAddr true
  exact ⟨hw, hw0, hr, hr0⟩

end Sys2Proof.Proofs

/-! ### The checksum's forms and laws -/

namespace Sys2Proof.Machine

open Sys2Proof.Claims

/-- The rounds of R131 are the iterates of one round. -/
theorem crcShifts_eq_iterate (n : Nat) (x : Byte) : crcShifts n x = crcShift^[n] x := by
  induction n generalizing x with
  | zero => rfl
  | succ n ih => exact ih (crcShift x)

/-- One clock of the bit-serial form takes in the message's top bit, where a round has the whole message in already: what is left
of the message, shifted up, is the difference. -/
theorem serialStep_xor (c b : Byte) : serialStep c (b.getLsbD 7) ^^^ (b <<< 1) = crcShift (c ^^^ b) := by
  unfold serialStep crcShift
  rw [BitVec.getLsbD_xor, BitVec.shiftLeft_xor_distrib, Bool.bne_eq_xor]
  split
  · rw [BitVec.xor_assoc, BitVec.xor_assoc, BitVec.xor_comm (b <<< 1)]
    rfl
  · rfl

/-- The bit-serial form clocked with the low n message bits, highest first, is n rounds on those bits at the byte's top. -/
theorem foldl_serialStep (c b : Byte) (n : Nat) (hn : n ≤ 8) :
    (List.range n).reverse.foldl (fun c i => serialStep c (b.getLsbD i)) c = crcShifts n (c ^^^ (b <<< (8 - n))) := by
  induction n generalizing c with
  | zero => simp [crcShifts]
  | succ n ih =>
    have hbit : b.getLsbD n = (b <<< (7 - n)).getLsbD 7 := by
      rw [BitVec.getLsbD_shiftLeft, show 7 - (7 - n) = n by omega]
      simp
    have hshift : b <<< (8 - n) = (b <<< (7 - n)) <<< 1 := by
      rw [← BitVec.shiftLeft_add, show 7 - n + 1 = 8 - n by omega]
    rw [List.range_succ, List.reverse_append, List.reverse_singleton, List.singleton_append, List.foldl_cons, ih _ (by omega),
      hbit, hshift, serialStep_xor, crcShifts, show 8 - (n + 1) = 7 - n by omega]

/-- The accumulator and the byte enter `crc8_update` through their sum alone (R132 e). -/
theorem crc8Update_eq_of_xor_eq {c b c' b' : Byte} (h : c ^^^ b = c' ^^^ b') : crc8Update c b = crc8Update c' b' :=
  congrArg (crcShifts 8) h

/-- The accumulator is cleared exactly by its own value: comparing and testing for zero are one test (R132 c). -/
theorem crc8Update_eq_zero_iff (c b : Byte) : crc8Update c b = 0#8 ↔ c = b := by
  rw [← crc8Update_self b]
  exact (crc8Update_acc_injective b).eq_iff

theorem crc8From_append (c : Byte) (s t : List Byte) : crc8From c (s ++ t) = crc8From (crc8From c s) t := List.foldl_append

/-- One more byte updates the checksum once. -/
theorem crc8_concat (s : List Byte) (b : Byte) : crc8 (s ++ [b]) = crc8Update (crc8 s) b := crc8From_append _ s [b]

/-- A byte with one bit flipped is another byte. -/
theorem xor_bit_ne (b : Byte) {k : Nat} (hk : k < 8) : b ^^^ (1#8 <<< k) ≠ b := by
  have hm : ∀ k < 8, 1#8 <<< k ≠ 0#8 := by decide
  intro h
  exact hm k hk ((BitVec.xor_right_inj b).mp (by rw [h, BitVec.xor_zero]))

/-- One flipped bit changes the accumulator: from the byte it is in on, the two values stay distinct (R147). -/
theorem crc8From_flipBit_ne (c : Byte) (s : List Byte) {i k : Nat} (hi : i < s.length) (hk : k < 8) :
    crc8From c (flipBit s i k) ≠ crc8From c s := by
  induction s generalizing c i with
  | nil => exact absurd hi (Nat.not_lt_zero i)
  | cons b s ih =>
    cases i with
    | zero =>
      intro h
      exact xor_bit_ne b hk (crc8Update_byte_injective c (crc8From_injective s h))
    | succ i => exact ih (crc8Update c b) (Nat.lt_of_succ_lt_succ hi)

theorem matchFlag_eq_false_iff (c b : Byte) : matchFlag c b = false ↔ c ≠ b := by
  rw [← Bool.not_eq_true, matchFlag_iff]

end Sys2Proof.Machine

namespace Sys2Proof.Proofs

open Sys2Proof.Machine Sys2Proof.Claims

/-- Settles O15: the byte form iterates `crcShift`, and the bit-serial form is `foldl_serialStep` with all eight bits. -/
theorem crcUpdateIsBitSerial : Obligations.CrcUpdateIsBitSerial := by
  intro c b
  refine ⟨crcShifts_eq_iterate 8 (c ^^^ b), ?_, crc8Update_eq_of_xor_eq BitVec.zero_xor.symm⟩
  calc crc8Update c b = crcShifts 8 (c ^^^ (b <<< (8 - 8))) := by rw [Nat.sub_self, BitVec.shiftLeft_zero, crc8Update]
    _ = crcSerial c b := (foldl_serialStep c b 8 le_rfl).symm

/-- Settles O16: the laws of the fold, and `crc8_update` injective in each argument, so bijective on bytes. -/
theorem crcLaws : Obligations.CrcLaws := by
  refine ⟨fun c b s => ⟨rfl, rfl, rfl⟩, rfl, fun s b => ?_, crc8From_append, fun s => ?_, fun b => ?_, fun c => ?_, fun c b => ?_⟩
  · rw [crc8_concat, crc8Update_eq_zero_iff]
  · rw [crc8_concat, crc8Update_self]
  · exact Finite.injective_iff_bijective.mp (crc8Update_acc_injective b)
  · exact Finite.injective_iff_bijective.mp (crc8Update_byte_injective c)
  · exact crc8Update_eq_of_xor_eq BitVec.xor_zero.symm

/-- Settles O18: a flipped bit, in a covered byte or in the checksum byte, makes two distinct bytes to compare. -/
theorem singleBitFlipIsDetected : Obligations.SingleBitFlipIsDetected := by
  intro s
  refine ⟨(matchFlag_iff _ _).mpr rfl, fun i k hi hk => ?_, fun k hk => ?_⟩
  · exact (matchFlag_eq_false_iff _ _).mpr (crc8From_flipBit_ne _ s hi hk)
  · exact (matchFlag_eq_false_iff _ _).mpr (xor_bit_ne _ hk).symm

end Sys2Proof.Proofs

/-! ### The checksum as a polynomial remainder -/

namespace Sys2Proof.Machine

open Polynomial

noncomputable section

/-- A byte's polynomial over GF(2): bit i is the coefficient of x^i (R130). -/
def bytePoly (b : Byte) : (ZMod 2)[X] := ∑ i : Fin 8, if b.getLsbD i then X ^ (i : ℕ) else 0

/-- The generator of R130, whose lower terms are `Config.pecPoly`. -/
def pecGenerator : (ZMod 2)[X] := X ^ 8 + X ^ 2 + X + 1

/-- The polynomial of a byte string, first byte highest, after the bytes that `p` stands for (R130). -/
def messagePoly (p : (ZMod 2)[X]) (s : List Byte) : (ZMod 2)[X] := s.foldl (fun p b => p * X ^ 8 + bytePoly b) p

/-- The residue class of a polynomial modulo the generator. -/
abbrev residue : (ZMod 2)[X] →+* AdjoinRoot pecGenerator := AdjoinRoot.mk pecGenerator

theorem bytePoly_xor (a b : Byte) : bytePoly (a ^^^ b) = bytePoly a + bytePoly b := by
  rw [bytePoly, bytePoly, bytePoly, ← Finset.sum_add_distrib]
  refine Finset.sum_congr rfl fun i _ => ?_
  rw [BitVec.getLsbD_xor]
  cases a.getLsbD i <;> cases b.getLsbD i <;> simp [CharTwo.add_self_eq_zero]

theorem bytePoly_pecPoly : bytePoly Config.pecPoly = X ^ 2 + X + 1 := by
  simp [bytePoly, Config.pecPoly, Fin.sum_univ_succ]
  ring

theorem pecGenerator_eq : pecGenerator = X ^ 8 + bytePoly Config.pecPoly := by
  rw [pecGenerator, bytePoly_pecPoly]
  ring

/-- Shifting a byte multiplies its polynomial by x, up to the bit shifted out. -/
theorem bytePoly_shiftLeft (b : Byte) : bytePoly (b <<< 1) = X * bytePoly b + if b.getLsbD 7 then X ^ 8 else 0 := by
  have hs : X * bytePoly b =
      (∑ i : Fin 7, if b.getLsbD i then X ^ (i + 1 : ℕ) else 0) + if b.getLsbD 7 then X ^ 8 else 0 := by
    rw [bytePoly, Finset.mul_sum, Fin.sum_univ_castSucc]
    simp [mul_ite, pow_succ']
  rw [hs, add_assoc, CharTwo.add_self_eq_zero, add_zero, bytePoly, Fin.sum_univ_succ]
  have hi : ∀ i : Fin 7, (i : ℕ) + 1 < 8 := fun i => Nat.succ_lt_succ i.isLt
  simp [hi, -BitVec.getLsbD_eq_getElem]

/-- A round multiplies by x modulo the generator: the bit shifted out is reduced by it (R131). -/
theorem residue_crcShift (b : Byte) : residue (bytePoly (crcShift b)) = residue (X * bytePoly b) := by
  have hg : X * bytePoly b + (if b.getLsbD 7 then pecGenerator else 0) = bytePoly (crcShift b) := by
    unfold crcShift
    split
    · rw [bytePoly_xor, bytePoly_shiftLeft, if_pos ‹_›, pecGenerator_eq, add_assoc]
    · rw [bytePoly_shiftLeft, if_neg ‹_›]
  rw [← hg, map_add]
  split <;> simp

theorem residue_crcShifts (n : Nat) (b : Byte) : residue (bytePoly (crcShifts n b)) = residue (X ^ n * bytePoly b) := by
  induction n generalizing b with
  | zero => simp [crcShifts]
  | succ n ih => rw [crcShifts, ih, map_mul, residue_crcShift, ← map_mul, ← mul_assoc, pow_succ]

/-- An accumulator that stands for the message so far stands for the whole of it after its next bytes (R131, R132). -/
theorem residue_crc8From (c : Byte) (p : (ZMod 2)[X]) (s : List Byte) (h : residue (bytePoly c) = residue (p * X ^ 8)) :
    residue (bytePoly (crc8From c s)) = residue (messagePoly p s * X ^ 8) := by
  induction s generalizing c p with
  | nil => exact h
  | cons b s ih =>
    refine ih (crc8Update c b) (p * X ^ 8 + bytePoly b) ?_
    rw [crc8Update, residue_crcShifts, bytePoly_xor, map_mul, map_add, h, ← map_add, ← map_mul, mul_comm]

theorem pecGenerator_degree : pecGenerator.degree = (8 : ℕ) := by
  unfold pecGenerator
  compute_degree!

theorem pecGenerator_monic : pecGenerator.Monic := by
  unfold pecGenerator
  monicity!

theorem bytePoly_degree_lt (b : Byte) : (bytePoly b).degree < pecGenerator.degree := by
  rw [pecGenerator_degree, ← mem_degreeLT]
  refine Submodule.sum_mem _ fun i _ => ?_
  split
  · exact mem_degreeLT.mpr ((degree_X_pow_le _).trans_lt (by exact_mod_cast i.isLt))
  · exact Submodule.zero_mem _

end

end Sys2Proof.Machine

namespace Sys2Proof.Proofs

open Sys2Proof.Machine Sys2Proof.Claims

/-- Settles O17: the checksum is congruent to the message times x^8 by `residue_crc8From`, and of lower degree than the
generator. -/
theorem crcIsPolynomialRemainder : Obligations.CrcIsPolynomialRemainder := by
  intro s
  change bytePoly (crc8 s) = (messagePoly 0 s * Polynomial.X ^ 8) %ₘ pecGenerator
  have hres : residue (bytePoly (crc8 s)) = residue (messagePoly 0 s * Polynomial.X ^ 8) :=
    residue_crc8From _ 0 s (by simp [bytePoly, Config.pecInit])
  rw [← Polynomial.modByMonic_eq_of_dvd_sub pecGenerator_monic (AdjoinRoot.mk_eq_mk.mp hres)]
  exact ((Polynomial.modByMonic_eq_self_iff pecGenerator_monic).mpr (bytePoly_degree_lt _)).symm

end Sys2Proof.Proofs

/-! ### Raw transfers -/

namespace Sys2Proof.Machine

open Sys2Proof.Claims

/-- A word that cannot run (R145, R146, R200): the snapshot is taken and the operation ends in ProtocolViolation. -/
theorem raise_protocolViolation_startOperation (k : OpKind) (s : State) :
    raise .protocolViolation (startOperation k s) =
      { s with
        cfgs := s.cfg
        status := { state := .err, err := .protocolViolation }
        seq := Seq.idle
        scratch := Scratch.empty } := rfl

/-- ENGINE's turn after acceptance reads the OBUF that acceptance left (R50, R118). -/
theorem memRead_startOperation (k : OpKind) (s : State) (l : List Input) (sp : Space) (a : Half) (n : Nat) :
    memRead { startOperation k s with inputs := l } sp a n = memRead s sp a n :=
  memRead_congr s _ sp a n (by cases sp <;> rfl)

/-- ENGINE has its turn when a transaction operation was just accepted (R31, R118). -/
theorem step_engine_startOperation {k : OpKind} {s t : State} {rest : List Input}
    (h : issueNext { startOperation k s with inputs := rest } = t) :
    step { startOperation k s with inputs := .engine :: rest } = .next t := by
  rw [step_engine (startOperation k s) rest ((engineReady_iff _).mpr ⟨rfl, rfl⟩), h]

section
variable {s : State} (h : Inv s)
include h

/-- The call of an outstanding XF.W (R145). -/
theorem Inv.call_of_xfw (hk : s.seq.opk = .xfw) (hp : s.seq.phase = .attempt) :
    s.scratch.call = { kind := .w, out := memRead s .obuf 0#16 s.len.toNat, nin := 0 } := by
  rw [h.buffers.callDetermined (by simp [hp]), callOf, hk]

/-- The call of an outstanding XF.WR (R146). -/
theorem Inv.call_of_xfwr (hk : s.seq.opk = .xfwr) (hp : s.seq.phase = .attempt) :
    s.scratch.call = { kind := .wr, out := memRead s .obuf 0#16 s.len.toNat, nin := s.ilen.toNat } := by
  rw [h.buffers.callDetermined (by simp [hp]), callOf, hk]

/-- The port may answer an outstanding request with exactly the bytes it asks for (R110). -/
theorem Inv.answerOk_ok {data : List Byte} (hp : s.seq.phase = .attempt) (hl : data.length = requestedBytes s) :
    AnswerOk s (.ok data) := by
  refine ⟨(outstanding_iff s .attempt).mpr ⟨h.busy_of_waiting (by simp [hp]), hp⟩, ?_, by simp, by simp⟩
  rintro _ ⟨⟩
  exact hl

end

/-- An in-frame of one byte more than the payload verifies when that byte is the payload's checksum (R141). -/
theorem verifies_of_getLast {s : State} {data : List Byte} (hl : data.length = s.scratch.call.nin + 1)
    (hlast : data.getLast? =
      some (crc8 ([addrWrite s.params] ++ s.scratch.call.out ++ [addrRead s.params] ++ data.take s.scratch.call.nin))) :
    Verifies s data := by
  rw [Verifies, List.dropLast_eq_take, hl, Nat.add_sub_cancel]
  exact hlast

/-- An answer that lets the attempt succeed leaves the recomputed checksum in CRC and Z = 1 if it is checked, and else both as they
were (R141, R144). -/
theorem answered_of_passing {s : State} {data : List Byte} (h : PassingAnswer s (.ok data)) :
    (answered (.ok data) s).crc = (if checksRead s then readCrc s data else s.crc) ∧
      (answered (.ok data) s).z = (if checksRead s then true else s.z) := by
  obtain ⟨⟨-, hlen, -, -⟩, data, ⟨⟩, hv⟩ := h
  by_cases hc : checksRead s = true
  · obtain ⟨hk, hp⟩ := (checksRead_iff s).mp hc
    obtain ⟨hcrc, hz⟩ := answered_of_checked data hc
    rw [if_pos hc, if_pos hc]
    exact ⟨hcrc, hz.trans ((matchFlag_readCrc_iff hc (hlen data rfl)).mpr (hv hk hp))⟩
  · rw [if_neg hc, if_neg hc]
    exact answered_of_unchecked _ hc

/-- The step of an answer that lets the attempt succeed: the operation goes on from its outcome, the buffers released (R118 s2). -/
theorem step_of_passing_ok {s : State} {data : List Byte} {rest : List Input} (h : PassingAnswer s (.ok data))
    (hi : s.inputs = .busAnswer (.ok data) :: rest) :
    step s = .next
      (afterSuccess (data.take s.scratch.call.nin)
        { s with
          inputs := rest
          crc := if checksRead s then readCrc s data else s.crc
          z := if checksRead s then true else s.z
          seq := { s.seq with phase := .idle }
          scratch := Scratch.empty
          trace := settleNewest (.ok data) s.trace }) := by
  obtain ⟨hcrc, hz⟩ := answered_of_passing (s := { s with inputs := rest }) h
  rw [step_of_passing h hi, answered_eq, hcrc, hz]
  rfl

end Sys2Proof.Machine

namespace Sys2Proof.Proofs

open Sys2Proof.Machine Sys2Proof.Claims

/-- Settles O20: acceptance is `startRawWrite`, and ENGINE's turn is s1 of XF.W, which reads the OBUF acceptance left. -/
theorem rawWriteIsIssued : Obligations.RawWriteIsIssued := by
  rintro s u rest hb rfl
  rw [exec_of_not_busy .xfW hb, effectOf]
  obtain ⟨hfit, he⟩ | ⟨hfit, he⟩ := startRawWrite_cases s <;> rw [he]
  · refine ⟨fun _ => ⟨rfl, step_engine_startOperation (k := .xfw) ?_⟩, fun hc => absurd hfit (Nat.not_le.mpr hc)⟩
    rw [issueNext_xfw rfl, memRead_startOperation]
    rfl
  · exact ⟨fun hc => absurd hc (Nat.not_le.mpr hfit), fun _ => by rw [raise_protocolViolation_startOperation]⟩

/-- Settles O21: acceptance is `startRawRead`, and ENGINE's turn is s1 of XF.WR, which reads the OBUF acceptance left. -/
theorem rawReadIsIssued : Obligations.RawReadIsIssued := by
  rintro s u rest hb rfl
  rw [exec_of_not_busy .xfWr hb, effectOf]
  obtain ⟨hlen, hilen, he⟩ | ⟨hfit, he⟩ := startRawRead_cases s <;> rw [he]
  · refine ⟨fun _ => ⟨rfl, step_engine_startOperation (k := .xfwr) ?_⟩, fun hc => by omega⟩
    rw [issueNext_xfwr rfl, memRead_startOperation]
    rfl
  · exact ⟨fun hc => by omega, fun _ => by rw [raise_protocolViolation_startOperation]⟩

/-- Settles O27: Ok passes for a write, whose success is `finish`; a write is not checked, so CRC and Z stay. -/
theorem rawWriteCompletes : Obligations.RawWriteCompletes := by
  intro s rest h hk hp hi
  have hcall := h.call_of_xfw hk hp
  have hpass : PassingAnswer s (.ok []) :=
    ⟨h.answerOk_ok hp (by simp [requestedBytes, hcall]), [], rfl, by simp [hcall]⟩
  have hcheck : ¬checksRead s = true := by simp [hcall]
  rw [step_of_passing_ok hpass hi, afterSuccess_xfw (by exact hk), if_neg hcheck, if_neg hcheck]
  rfl

/-- Settles O28: the answer passes because its last byte is the checksum `CheckR` recomputes; the success stores the payload. -/
theorem rawReadCompletes : Obligations.RawReadCompletes := by
  rintro s data c rest h hk hp hl rfl hlast hi
  have hcall := h.call_of_xfwr hk hp
  have hpass : PassingAnswer s (.ok data) := by
    refine ⟨h.answerOk_ok hp (by simpa [requestedBytes, hcall] using hl), data, rfl, fun _ hpec => ?_⟩
    exact verifies_of_getLast (by simpa [hcall, hpec] using hl) (by simpa only [hcall] using hlast hpec)
  have hcheck : checksRead s = s.cfgs.pecOnRead := by simp [checksRead, hcall]
  rw [step_of_passing_ok hpass hi, afterSuccess_xfwr (by exact hk), hcheck, readCrc_eq, hcall]
  rfl

end Sys2Proof.Proofs

/-! ### Chunked transfers: acceptance -/

namespace Sys2Proof.Machine

open Sys2Proof.Claims

/-- DF.WR accepted with bytes to send waits for s1 (R31, R170). -/
theorem startChunkedWrite_of_len_ne {s : State} (hl : s.len ≠ 0#16) :
    startChunkedWrite s =
      { s with
        cfgs := s.cfg
        status := { state := .busy, err := .none }
        seq := { opk := .dfwr, stage := .none, phase := .idle }
        off := 0#16
        rem := s.len } := if_neg hl

/-- DF.RD accepted with bytes to fetch waits for s1 to select (R31, R175). -/
theorem startChunkedRead_of_len_ne {s : State} (hl : s.len ≠ 0#16) :
    startChunkedRead s =
      { s with
        cfgs := s.cfg
        status := { state := .busy, err := .none }
        seq := { opk := .dfrd, stage := .sel, phase := .idle }
        off := 0#16
        rem := s.len } := if_neg hl

/-- A chunked operation accepted with LEN = 0 is DONE at once (R181). -/
theorem effectOf_chunked_of_len_eq {i : Instr} {s : State} (hl : s.len = 0#16) (hi : i = .dfWr ∨ i = .dfRd) :
    effectOf i s =
      { s with
        cfgs := s.cfg
        status := { state := .done, err := .none }
        seq := Seq.idle
        scratch := Scratch.empty
        off := 0#16
        rem := 0#16 } := by
  have hrem (k : OpKind) := congrArg (fun r => { finish (startProgress (startOperation k s)) with rem := r }) hl
  obtain rfl | rfl := hi
  · exact (if_pos hl).trans (hrem .dfwr)
  · exact (if_pos hl).trans (hrem .dfrd)

/-- s1 of DF.WR writes chunk j of the transfer that `s` accepted, when it stands at OFF = 32 j (R161, R170). -/
theorem issueNext_chunk {s t : State} {j : Nat} (hk : t.seq.opk = .dfwr) (hp : t.params = s.params) (hb : t.base = s.base)
    (ho : t.obuf = s.obuf) (hoff : t.off.toNat = 32 * j) (hsum : t.off.toNat + t.rem.toNat = s.len.toNat) :
    issueNext t = writeIssued t (chunkPayload s j) := by
  simp only [issueNext, callOf, hk, beginTransaction_write, chunkFrame_eq_chunkPayload s t j hp hb ho hoff hsum]

end Sys2Proof.Machine

namespace Sys2Proof.Proofs

open Sys2Proof.Machine Sys2Proof.Claims

/-- Settles O57: BASE + OFF is a 16-bit sum, and the two bytes sent make it up, low byte first. -/
theorem chunkAddressIsTheSixteenBitSum : Obligations.ChunkAddressIsTheSixteenBitSum := by
  intro s j
  have hsum := chunkAddress_toNat s
  exact ⟨hsum, fun hoff => hoff ▸ hsum, _, _, rfl, lo8_add_hi8 (chunkAddress s)⟩

/-- Settles O25: with LEN = 0 the acceptance of either operation is its end. -/
theorem zeroLengthTransferEndsAtOnce : Obligations.ZeroLengthTransferEndsAtOnce := by
  intro s i hb hl hi
  rw [exec_of_not_busy i hb, effectOf_chunked_of_len_eq hl hi]

/-- Settles O22: acceptance is `startChunkedWrite`, and ENGINE's turn is s1 of DF.WR at OFF = 0. -/
theorem chunkedWriteIsIssued : Obligations.ChunkedWriteIsIssued := by
  rintro s u rest hb hl rfl
  refine ⟨?_, ?_⟩
  · rw [exec_of_not_busy .dfWr hb, effectOf, startChunkedWrite_of_len_ne hl]
  · rw [step_engine _ rest ((engineReady_iff _).mpr ⟨rfl, rfl⟩)]
    exact congrArg _ (issueNext_chunk rfl rfl rfl rfl rfl (Nat.zero_add _))

/-- Settles O23: acceptance is `startChunkedRead`, and ENGINE's turn is s1 of DF.RD in stage SEL. -/
theorem chunkedReadSelectsFirst : Obligations.ChunkedReadSelectsFirst := by
  rintro s u rest hb hl rfl
  refine ⟨?_, ?_⟩
  · rw [exec_of_not_busy .dfRd hb, effectOf, startChunkedRead_of_len_ne hl]
  · rw [step_engine _ rest ((engineReady_iff _).mpr ⟨rfl, rfl⟩), issueNext_select rfl rfl]
    rfl

end Sys2Proof.Proofs

/-! ### Chunked transfers: one attempt -/

namespace Sys2Proof.Machine

open Sys2Proof.Claims

section
variable {s : State}

/-- The last chunk counted ends the operation, all of LEN done (R20, R21). -/
theorem continueLoop_advance_last (hsum : s.off.toNat + s.rem.toNat = s.len.toNat) (hr : s.rem.toNat ≤ 32) :
    continueLoop (advanceProgress (chunkSize s) s) =
      { s with
        status := { state := .done, err := .none }
        seq := Seq.idle
        scratch := Scratch.empty
        off := s.len
        rem := 0#16 } := by
  have hn : BitVec.ofNat 16 (chunkSize s) = s.rem := by
    rw [show chunkSize s = s.rem.toNat from Nat.min_eq_right hr, BitVec.ofNat_toNat, BitVec.setWidth_eq]
  have hoff : s.off + s.rem = s.len := by bv_omega
  simp only [advanceProgress, hn, hoff, BitVec.sub_self]
  rfl

/-- Any other chunk counted leaves the operation 32 bytes further on, waiting for s1 (R20, R21, R118). -/
theorem continueLoop_advance_more (hr : 32 < s.rem.toNat) :
    continueLoop (advanceProgress (chunkSize s) s) = { s with off := s.off + 32#16, rem := s.rem - 32#16 } := by
  have hrem : s.rem - 32#16 ≠ 0#16 := by bv_omega
  rw [show chunkSize s = 32 from Nat.min_eq_left hr.le]
  exact if_neg hrem

end

section
variable {s : State} (h : Inv s)
include h

/-- DF.RD alone selects (R27). -/
theorem Inv.opk_of_select (hg : s.seq.stage = .sel) : s.seq.opk = .dfrd := h.seq.stageIffRead.mp (by simp [hg])

/-- DF.WR has no stage (R27). -/
theorem Inv.stage_of_dfwr (hk : s.seq.opk = .dfwr) : s.seq.stage = .none :=
  not_not.mp fun hg => by simp [h.seq.stageIffRead.mp hg] at hk

/-- The call of an outstanding chunk of DF.WR (R170). -/
theorem Inv.call_of_dfwr (hk : s.seq.opk = .dfwr) (hp : s.seq.phase = .attempt) :
    s.scratch.call = { kind := .w, out := chunkFrame s, nin := 0 } := by
  rw [h.buffers.callDetermined (by simp [hp]), callOf, hk]

/-- The call of an outstanding select-write (R176). -/
theorem Inv.call_of_select (hg : s.seq.stage = .sel) (hp : s.seq.phase = .attempt) :
    s.scratch.call = { kind := .w, out := selectFrame s, nin := 0 } := by
  rw [h.buffers.callDetermined (by simp [hp]), callOf, h.opk_of_select hg, hg]

/-- The call of an outstanding block read (R65, R177). -/
theorem Inv.call_of_block (hk : s.seq.opk = .dfrd) (hg : s.seq.stage = .blk) (hp : s.seq.phase = .attempt) :
    s.scratch.call = { kind := .wr, out := [s.params.cmdMac], nin := blockReadBytes s } := by
  rw [h.buffers.callDetermined (by simp [hp]), callOf, hk, hg]
  rfl

end

/-- The port's Ok to an outstanding write lets its attempt succeed (R111, R114). -/
theorem passingAnswer_of_write {s : State} (hb : s.status.state = .busy) (hp : s.seq.phase = .attempt)
    (hk : s.scratch.call.kind = .w) : PassingAnswer s (.ok []) := by
  refine ⟨⟨(outstanding_iff s .attempt).mpr ⟨hb, hp⟩, ?_, by simp, by simp⟩, [], rfl, by simp [hk]⟩
  rintro _ ⟨⟩
  simp [requestedBytes, hk]

/-- An answer that lets the attempt succeed brings the bytes requested (R110, R114). -/
theorem length_of_passingAnswer {s : State} {data : List Byte} (h : PassingAnswer s (.ok data)) :
    data.length = requestedBytes s := by
  obtain ⟨⟨-, hlen, -, -⟩, -⟩ := h
  exact hlen data rfl

/-- The step of the port's Ok to an outstanding write: CRC and Z stay, the operation goes on, the buffers released (R118 s2,
R144). -/
theorem step_of_write_ok {s : State} {rest : List Input} (hb : s.status.state = .busy) (hp : s.seq.phase = .attempt)
    (hk : s.scratch.call.kind = .w) (hi : s.inputs = .busAnswer (.ok []) :: rest) :
    step s = .next
      (afterSuccess []
        { s with
          inputs := rest
          seq := { s.seq with phase := .idle }
          scratch := Scratch.empty
          trace := settleNewest (.ok []) s.trace }) := by
  have hcheck : ¬checksRead s = true := by simp [hk]
  rw [step_of_passing_ok (passingAnswer_of_write hb hp hk) hi, if_neg hcheck, if_neg hcheck, List.take_nil]

/-- The checksum of a block read covers [AW, CMD_MAC, AR] and the in-frame but its last byte (R134, R141). -/
theorem readCrc_block {s : State} {data : List Byte} {n : Nat}
    (hcall : s.scratch.call = { kind := .wr, out := [s.params.cmdMac], nin := n }) (hl : data.length = n + 1) :
    readCrc s data = crc8 ([addrWrite s.params, s.params.cmdMac, addrRead s.params] ++ data.dropLast) := by
  rw [readCrc_eq, hcall, List.dropLast_eq_take, hl]
  rfl

/-- The payload of a block read is long enough for its three leading bytes and its chunk (R67). -/
theorem chunkSize_add_le_blockReadBytes (s : State) : 3 + chunkSize s ≤ blockReadBytes s := by
  have hn := chunkSize_le s
  simp only [blockReadBytes, prefixBytes, Config.addrBytes, Config.chunkMax]
  split <;> omega

/-- The data kept of a block read's payload are those of its in-frame: its PEC byte is not among them (R178). -/
theorem blockData_take (s : State) (data : List Byte) :
    blockData s (data.take (blockReadBytes s)) = (data.drop 3).take (chunkSize s) := by
  have hn := chunkSize_add_le_blockReadBytes s
  rw [blockData, List.drop_take, List.take_take, show prefixBytes = 3 from rfl, Nat.min_eq_left (by omega)]

/-- The step of a block read's passing answer: the checked in-frame's data are stored at OFF and counted (R141, R178, R179). -/
theorem step_of_block_ok {s : State} {data : List Byte} {rest : List Input} {c : Byte} (hk : s.seq.opk = .dfrd)
    (hg : s.seq.stage = .blk)
    (hcall : s.scratch.call = { kind := .wr, out := [s.params.cmdMac], nin := blockReadBytes s })
    (h : PassingAnswer s (.ok data)) (hi : s.inputs = .busAnswer (.ok data) :: rest)
    (hc : c =
      if s.cfgs.pecOnRead then crc8 ([addrWrite s.params, s.params.cmdMac, addrRead s.params] ++ data.dropLast)
      else s.crc) :
    step s = .next
      (continueLoop (advanceProgress (chunkSize s)
        { s with
          inputs := rest
          seq := { opk := .dfrd, stage := .blk, phase := .idle }
          scratch := Scratch.empty
          crc := c
          z := if s.cfgs.pecOnRead then true else s.z
          ibuf := memWrite s.ibuf s.off ((data.drop 3).take (chunkSize s))
          trace := settleNewest (.ok data) s.trace })) := by
  have hcheck : checksRead s = s.cfgs.pecOnRead := by simp [checksRead, hcall]
  have hcrc : (if s.cfgs.pecOnRead then readCrc s data else s.crc) = c := by
    rw [hc]
    split
    · rename_i hpec
      exact readCrc_block hcall (by simpa [requestedBytes, hcall, hpec] using length_of_passingAnswer h)
    · rfl
  have hnin : s.scratch.call.nin = blockReadBytes s := by rw [hcall]
  have hseq : { s.seq with phase := .idle } = { opk := .dfrd, stage := .blk, phase := .idle } := by simp only [hk, hg]
  rw [step_of_passing_ok h hi, hseq, afterSuccess_block rfl rfl, hcheck, hcrc, hnin, ← blockData_take]
  rfl

end Sys2Proof.Machine

namespace Sys2Proof.Proofs

open Sys2Proof.Machine Sys2Proof.Claims

/-- Settles O35: the port's Ok counts the chunk, which is the last one or not. -/
theorem chunkWriteCountsItsChunk : Obligations.ChunkWriteCountsItsChunk := by
  intro s rest h hk hp hi
  have hsum := h.progress.total (.inl hk)
  have hseq : { s.seq with phase := .idle } = { opk := .dfwr, stage := .none, phase := .idle } := by
    simp only [hk, h.stage_of_dfwr hk]
  rw [step_of_write_ok (h.busy_of_waiting (by simp [hp])) hp (by rw [h.call_of_dfwr hk hp]) hi, hseq, afterSuccess_dfwr rfl]
  exact ⟨fun hr => congrArg _ (continueLoop_advance_last hsum hr), fun hr => congrArg _ (continueLoop_advance_more hr)⟩

/-- Settles O36: the port's Ok sets STAGE, and the loop goes on because bytes remain. -/
theorem selectWriteTurnsToBlockReads : Obligations.SelectWriteTurnsToBlockReads := by
  intro s rest h hg hp hi
  have hk := h.opk_of_select hg
  have hseq : { s.seq with phase := .idle } = { opk := .dfrd, stage := .sel, phase := .idle } := by simp only [hk, hg]
  rw [step_of_write_ok (h.busy_of_waiting (by simp [hp])) hp (by rw [h.call_of_select hg hp]) hi, hseq,
    afterSuccess_select rfl (by simp)]
  exact congrArg _ (if_neg (h.progress.remains (.inr hk)))

/-- Settles O34: the passing answer's data are stored and counted by `step_of_block_ok`; what IBUF reads as then is what
BufferReadAfterWrite says of a string inside the buffer. -/
theorem blockReadStoresItsChunk : Obligations.BlockReadStoresItsChunk := by
  rintro s t data rest h hk hg hp hpass hi rfl
  have hcall := h.call_of_block hk hg hp
  have hsum := h.progress.total (.inr hk)
  have hlen := s.len.isLt
  have hn := chunkSize_add_le_blockReadBytes s
  have hdata : blockReadBytes s ≤ data.length := by
    simp [length_of_passingAnswer hpass, requestedBytes, hcall]
  have hstored : ((data.drop 3).take (min 32 s.rem.toNat)).length = min 32 s.rem.toNat := by
    have hc : chunkSize s = min 32 s.rem.toNat := rfl
    rw [List.length_take, List.length_drop]
    omega
  have hread (a : Half) := bufferReadAfterWrite s s.off a ((data.drop 3).take (min 32 s.rem.toNat)) (by omega)
  rw [step_of_block_ok hk hg hcall hpass hi rfl]
  refine ⟨fun hr => ?_, fun hr => ?_, fun j hj => ?_, fun a ha => ?_, fun a => rfl⟩
  · exact congrArg _ (continueLoop_advance_last hsum hr)
  · exact congrArg _ (continueLoop_advance_more hr)
  · have hoff : (s.off + BitVec.ofNat 16 j).toNat = s.off.toNat + j := by bv_omega
    refine Eq.trans (congrArg some (hread _)) ?_
    rw [hoff, if_pos (by omega), Nat.add_sub_cancel_left]
    have hjlt : j < ((data.drop 3).take (min 32 s.rem.toNat)).length := by omega
    rw [List.getD_eq_getElem _ _ hjlt, ← List.getElem?_eq_getElem hjlt, List.getElem?_take_of_lt hj, List.getElem?_drop]
  · refine (hread a).trans (if_neg ?_)
    omega

/-- Settles O37: the state after a passing answer, as BlockReadStoresItsChunk gives it, sees the answer past its third byte but for
the trace and CRC. -/
theorem echoedPrefixIsIgnored : Obligations.EchoedPrefixIsIgnored := by
  intro s a b x y rest h hk hg hp hx hy hxy ha hb
  obtain ⟨hxlast, hxmore, -⟩ :=
    blockReadStoresItsChunk { s with inputs := .busAnswer (.ok x) :: rest } _ x rest h.of_same hk hg hp hx rfl rfl
  obtain ⟨hylast, hymore, -⟩ :=
    blockReadStoresItsChunk { s with inputs := .busAnswer (.ok y) :: rest } _ y rest h.of_same hk hg hp hy rfl rfl
  obtain hr | hr := Nat.lt_or_ge 32 s.rem.toNat
  · cases (hxmore hr).symm.trans ha
    cases (hymore hr).symm.trans hb
    simp only [hxy]
  · cases (hxlast hr).symm.trans ha
    cases (hylast hr).symm.trans hb
    simp only [hxy]

end Sys2Proof.Proofs

/-! ### Chunked transfers: one transaction after another -/

namespace Sys2Proof.Machine

open Sys2Proof.Claims

/-- One transaction of a running operation, both its steps: ENGINE issues it, and the port's answer `o` leads to `t` (R118),
whatever is scheduled next. -/
structure Transacts (u : State) (o : BusOutcome) (t : State) : Prop where
  ready : engineReady u = true
  inputs : t.inputs = u.inputs
  answer : ∀ rest, step { issueNext u with inputs := .busAnswer o :: rest } = .next { t with inputs := rest }

/-- A run takes a scheduled transaction in two steps. -/
theorem Transacts.run {u t : State} {o : BusOutcome} (h : Transacts u o t) (n : Nat) (rest : List Input) :
    Host.Core.run Sys2Proof.core (n + 2) { u with inputs := .engine :: .busAnswer o :: rest } =
      Host.Core.run Sys2Proof.core n { t with inputs := rest } := by
  have hissue : step { u with inputs := .engine :: .busAnswer o :: rest } =
      .next { issueNext u with inputs := .busAnswer o :: rest } := by
    rw [step_engine u _ h.ready, issueNext_withInputs]
  rw [run_succ (n + 1) hissue, run_succ n (h.answer rest)]

/-- Transactions one after another: a run takes them all, in the schedule that alternates ENGINE's turn and the answer (R118). -/
theorem run_transactions {U : Nat → State} {os : List BusOutcome}
    (h : ∀ j o, os[j]? = some o → Transacts (U j) o (U (j + 1))) (rest : List Input) :
    Host.Core.run Sys2Proof.core (2 * os.length) { U 0 with inputs := answeredTurns os ++ rest } =
      .next { U os.length with inputs := rest } := by
  induction os generalizing U with
  | nil => rfl
  | cons o os ih =>
    exact ((h 0 o rfl).run (2 * os.length) (answeredTurns os ++ rest)).trans
      (ih (U := fun j => U (j + 1)) fun j o ho => h (j + 1) o ho)

/-- The transfer has a chunk j as long as LEN reaches past 32 j (R161). -/
theorem lt_chunkCount_iff (s : State) (j : Nat) : j < chunkCount s ↔ 32 * j < s.len.toNat := by
  unfold chunkCount
  omega

theorem len_le_chunkCount (s : State) : s.len.toNat ≤ 32 * chunkCount s :=
  Nat.not_lt.mp fun hlt => lt_irrefl _ ((lt_chunkCount_iff s _).mpr hlt)

/-- The operation k of `u` after j of its chunks (R20, R21): running in stage g and waiting for s1 while bytes remain, and else
DONE (R118). -/
def atChunk (k : OpKind) (g : Stage) (j : Nat) (u : State) : State :=
  { u with
    status := if 32 * j < u.len.toNat then { state := .busy, err := .none } else { state := .done, err := .none }
    seq := if 32 * j < u.len.toNat then { opk := k, stage := g, phase := .idle } else Seq.idle
    off := BitVec.ofNat 16 (min (32 * j) u.len.toNat)
    rem := u.len - BitVec.ofNat 16 (min (32 * j) u.len.toNat) }

section
variable (k : OpKind) (g : Stage) {j : Nat} {u : State}

/-- OFF + REM = LEN after any number of chunks (R21). -/
theorem atChunk_total : (atChunk k g j u).off.toNat + (atChunk k g j u).rem.toNat = u.len.toNat := by
  simp only [atChunk]
  bv_omega

/-- With every chunk done the operation is DONE, OFF = LEN and REM = 0 (R20, R21). -/
theorem atChunk_of_le (h : u.len.toNat ≤ 32 * j) :
    atChunk k g j u =
      { u with status := { state := .done, err := .none }, seq := Seq.idle, off := u.len, rem := 0#16 } := by
  have hoff : BitVec.ofNat 16 (min (32 * j) u.len.toNat) = u.len := by
    rw [Nat.min_eq_right h, BitVec.ofNat_toNat, BitVec.setWidth_eq]
  simp only [atChunk, if_neg (Nat.not_lt.mpr h), hoff, BitVec.sub_self]

section
variable (h : 32 * j < u.len.toNat)
include h

theorem atChunk_of_lt :
    atChunk k g j u =
      { u with
        status := { state := .busy, err := .none }
        seq := { opk := k, stage := g, phase := .idle }
        off := BitVec.ofNat 16 (32 * j)
        rem := u.len - BitVec.ofNat 16 (32 * j) } := by
  simp only [atChunk, if_pos h, Nat.min_eq_left h.le]

theorem engineReady_atChunk : engineReady (atChunk k g j u) = true := by
  rw [atChunk_of_lt k g h]
  rfl

theorem atChunk_off_toNat : (atChunk k g j u).off.toNat = 32 * j := by
  rw [atChunk_of_lt k g h]
  bv_omega

theorem atChunk_rem_toNat : (atChunk k g j u).rem.toNat = u.len.toNat - 32 * j := by
  rw [atChunk_of_lt k g h]
  bv_omega

/-- The chunk that comes next is chunk j (R160, R161). -/
theorem chunkSize_atChunk : chunkSize (atChunk k g j u) = chunkLength u j := by
  rw [chunkSize, atChunk_rem_toNat k g h]
  rfl

/-- One more chunk counted (R20, R21). -/
theorem continueLoop_advance_atChunk {t : State} (hs : u.scratch = Scratch.empty)
    (ht : t =
      { u with
        status := { state := .busy, err := .none }
        seq := { opk := k, stage := g, phase := .idle }
        off := BitVec.ofNat 16 (32 * j)
        rem := u.len - BitVec.ofNat 16 (32 * j) }) :
    continueLoop (advanceProgress (chunkSize t) t) = atChunk k g (j + 1) u := by
  obtain rfl : t = atChunk k g j u := ht.trans (atChunk_of_lt k g h).symm
  have hrem := atChunk_rem_toNat k g h
  obtain hr | hr := Nat.lt_or_ge 32 (atChunk k g j u).rem.toNat
  · rw [continueLoop_advance_more hr, atChunk_of_lt k g h, atChunk_of_lt k g (j := j + 1) (by omega)]
    have hnext : BitVec.ofNat 16 (32 * (j + 1)) = BitVec.ofNat 16 (32 * j) + 32#16 := by bv_omega
    rw [hnext, ← BitVec.sub_sub]
  · rw [continueLoop_advance_last (atChunk_total k g) hr, atChunk_of_le k g (j := j + 1) (by omega), ← hs]
    rfl

end

end

/-! ### DF.WR, whole -/

/-- What a chunked operation keeps of the state that accepts it (R14, R31): the snapshot is taken; with nothing to move the
transaction buffers are left empty (R181). -/
def accepted (s : State) : State :=
  { s with cfgs := s.cfg, scratch := if s.len = 0#16 then Scratch.empty else s.scratch }

/-- DF.WR as it is accepted, its first chunk to come (R170, R181). -/
theorem startChunkedWrite_eq_atChunk (s : State) : startChunkedWrite s = atChunk .dfwr .none 0 (accepted s) := by
  by_cases hl : s.len = 0#16
  · rw [atChunk_of_le _ _ (by simp [accepted, hl]), accepted, if_pos hl]
    exact (effectOf_chunked_of_len_eq hl (.inl rfl)).trans (by simp [hl])
  · have hpos : 32 * 0 < s.len.toNat := by bv_omega
    rw [startChunkedWrite_of_len_ne hl, atChunk_of_lt _ _ (by exact hpos), accepted, if_neg hl]
    simp

/-- What chunk j of DF.WR leaves of `v` when its first attempt succeeds, its progress apart (R113, R140, R170). -/
def chunkWritten (j : Nat) (v : State) : State :=
  { v with
    retry := v.cfgs.maxRetries
    crc := if v.cfgs.pecOnWrite then crc8 (addrWrite v.params :: chunkPayload v j) else v.crc
    scratch := Scratch.empty
    trace := .w (wireFrame v.params v.cfgs (chunkPayload v j)) (.ok []) :: v.trace }

/-- What the first j chunks leave. -/
def chunksWritten (v : State) : Nat → State
  | 0 => v
  | j + 1 => chunkWritten j (chunksWritten v j)

section
variable {v : State} {j : Nat} (h : 32 * j < v.len.toNat)
include h

/-- ENGINE's turn issues chunk j of DF.WR (R161, R170). -/
theorem issueNext_atChunk_write :
    issueNext (atChunk .dfwr .none j v) = writeIssued (atChunk .dfwr .none j v) (chunkPayload v j) := by
  refine issueNext_chunk ?_ rfl rfl rfl (atChunk_off_toNat .dfwr .none h) (atChunk_total .dfwr .none)
  rw [atChunk_of_lt _ _ h]

/-- The port's Ok to it counts it (R20, R21, R170). -/
theorem transacts_chunkWrite :
    Transacts (atChunk .dfwr .none j v) (.ok []) (atChunk .dfwr .none (j + 1) (chunkWritten j v)) := by
  refine ⟨engineReady_atChunk .dfwr .none h, rfl, fun rest => ?_⟩
  rw [issueNext_atChunk_write h, atChunk_of_lt _ _ h, step_of_write_ok rfl rfl rfl rfl, afterSuccess_dfwr rfl]
  exact congrArg _ (continueLoop_advance_atChunk .dfwr .none (u := { chunkWritten j v with inputs := rest }) h rfl rfl)

end

section
variable (v : State) (j : Nat)
@[simp] theorem chunksWritten_params : (chunksWritten v j).params = v.params := by
  induction j with | zero => rfl | succ j ih => exact ih
@[simp] theorem chunksWritten_z : (chunksWritten v j).z = v.z := by
  induction j with | zero => rfl | succ j ih => exact ih
@[simp] theorem chunksWritten_cfgs : (chunksWritten v j).cfgs = v.cfgs := by
  induction j with | zero => rfl | succ j ih => exact ih
@[simp] theorem chunksWritten_base : (chunksWritten v j).base = v.base := by
  induction j with | zero => rfl | succ j ih => exact ih
@[simp] theorem chunksWritten_len : (chunksWritten v j).len = v.len := by
  induction j with | zero => rfl | succ j ih => exact ih
@[simp] theorem chunksWritten_obuf : (chunksWritten v j).obuf = v.obuf := by
  induction j with | zero => rfl | succ j ih => exact ih
@[simp] theorem chunksWritten_ibuf : (chunksWritten v j).ibuf = v.ibuf := by
  induction j with | zero => rfl | succ j ih => exact ih
end

/-- What a chunk's payload depends on. -/
theorem chunkPayload_congr {s t : State} (j : Nat) (hp : t.params = s.params) (hb : t.base = s.base) (hl : t.len = s.len)
    (ho : t.obuf = s.obuf) : chunkPayload t j = chunkPayload s j := by
  simp only [chunkPayload, chunkLength, hp, hb, hl, memRead_congr s t .obuf _ _ ho]

@[simp] theorem chunkPayload_chunksWritten (v : State) (i j : Nat) :
    chunkPayload (chunksWritten v i) j = chunkPayload v j :=
  chunkPayload_congr j (by simp) (by simp) (by simp) (by simp)

@[simp] theorem chunkPayload_accepted (s : State) (j : Nat) : chunkPayload (accepted s) j = chunkPayload s j :=
  chunkPayload_congr j rfl rfl rfl rfl

/-- The trace shows the chunks written, newest first (R53, R161). -/
theorem chunksWritten_trace (s : State) (j : Nat) :
    (chunksWritten (accepted s) j).trace = ((List.range j).map (chunkWriteEvent s)).reverse ++ s.trace := by
  induction j with
  | zero => rfl
  | succ j ih =>
    rw [chunksWritten, chunkWritten, ih]
    simp [List.range_succ, chunkWriteEvent]
    rfl

/-- DF.WR after j chunks, every attempt Ok (R170). -/
def writeAt (s : State) (j : Nat) : State := atChunk .dfwr .none j (chunksWritten (accepted s) j)

/-- Each chunk is one transaction. -/
theorem transacts_writeAt {s : State} {j : Nat} (hj : j < chunkCount s) :
    Transacts (writeAt s j) (.ok []) (writeAt s (j + 1)) :=
  transacts_chunkWrite (by simpa [accepted] using (lt_chunkCount_iff s j).mp hj)

/-- After all its chunks DF.WR is DONE with OFF = LEN (R20, R21, R170). -/
theorem writeAt_chunkCount (s : State) :
    writeAt s (chunkCount s) =
      { chunksWritten (accepted s) (chunkCount s) with
        status := { state := .done, err := .none }
        seq := Seq.idle
        off := s.len
        rem := 0#16 } := by
  rw [writeAt, atChunk_of_le _ _ (by simpa [accepted] using len_le_chunkCount s)]
  simp [accepted]

end Sys2Proof.Machine

namespace Sys2Proof.Proofs

open Sys2Proof.Machine Sys2Proof.Claims

/-- Settles O38: the run is one transaction a chunk, and `writeAt_chunkCount` says where it ends. -/
theorem chunkedWriteSendsEveryChunk : Obligations.ChunkedWriteSendsEveryChunk := by
  intro s u rest hb hi he
  obtain rfl : u = writeAt s 0 := (exec_next he).2.trans (startChunkedWrite_eq_atChunk s)
  have hchunk (j : Nat) (o : BusOutcome) (ho : (List.replicate (chunkCount s) (.ok []))[j]? = some o) :
      Transacts (writeAt s j) o (writeAt s (j + 1)) := by
    obtain ⟨hj, rfl⟩ : j < chunkCount s ∧ .ok [] = o := by simpa [List.getElem?_replicate] using ho
    exact transacts_writeAt hj
  have hrun := run_transactions hchunk rest
  rw [← hi, List.length_replicate, writeAt_chunkCount] at hrun
  exact ⟨_, hrun, rfl, rfl, rfl, rfl, by simp [chunksWritten_trace], by simp [accepted], by simp [accepted],
    by simp [accepted]⟩

end Sys2Proof.Proofs

/-! ### DF.RD, whole -/

namespace Sys2Proof.Machine

open Sys2Proof.Claims

/-- What the select-write leaves of the state that accepted DF.RD, its progress apart (R113, R140, R176). -/
def selected (s : State) : State :=
  { accepted s with
    retry := s.cfg.maxRetries
    crc := if s.cfg.pecOnWrite then crc8 (addrWrite s.params :: selectPayload s) else s.crc
    scratch := Scratch.empty
    trace := .w (wireFrame s.params s.cfg (selectPayload s)) (.ok []) :: s.trace }

/-- What block read j, answered with `a`, leaves of `v`, its progress apart (R113, R141, R178, R179). -/
def chunkRead (a : List Byte) (j : Nat) (v : State) : State :=
  { v with
    retry := v.cfgs.maxRetries
    crc :=
      if v.cfgs.pecOnRead then crc8 ([addrWrite v.params, v.params.cmdMac, addrRead v.params] ++ a.dropLast) else v.crc
    z := if v.cfgs.pecOnRead then true else v.z
    scratch := Scratch.empty
    ibuf := memWrite v.ibuf (BitVec.ofNat 16 (32 * j)) ((a.drop 3).take (chunkLength v j))
    trace := blockReadEvent v a :: v.trace }

/-- What the first j block reads leave, answered with `A`. -/
def chunksRead (A : Nat → List Byte) (v : State) : Nat → State
  | 0 => v
  | j + 1 => chunkRead (A j) j (chunksRead A v j)

/-- DF.RD as it is accepted writes the select frame, and the port's Ok to it turns to the block reads (R175, R176). -/
theorem transacts_select {s : State} (hl : s.len ≠ 0#16) :
    issueNext (startChunkedRead s) = writeIssued (startChunkedRead s) (selectPayload s) ∧
      Transacts (startChunkedRead s) (.ok []) (atChunk .dfrd .blk 0 (selected s)) := by
  have hpos : 32 * 0 < s.len.toNat := by bv_omega
  have hnext := atChunk_of_lt .dfrd .blk (u := selected s) hpos
  rw [Nat.mul_zero, BitVec.sub_zero] at hnext
  have hissue : issueNext (startChunkedRead s) = writeIssued (startChunkedRead s) (selectPayload s) := by
    rw [startChunkedRead_of_len_ne hl]
    exact issueNext_select rfl rfl
  refine ⟨hissue, ?_⟩
  rw [startChunkedRead_of_len_ne hl] at hissue ⊢
  refine ⟨(engineReady_iff _).mpr ⟨rfl, rfl⟩, rfl, fun rest => ?_⟩
  rw [hissue, step_of_write_ok rfl rfl rfl rfl, hnext, afterSuccess_select rfl (by exact Stage.noConfusion)]
  exact congrArg _ (if_neg hl)

/-- A block read with its passing answer, from ENGINE's turn on (R118, R141, R178, R179). -/
theorem step_block_transaction {u : State} {a : List Byte} (hb : u.status.state = .busy)
    (hs : u.seq = { opk := .dfrd, stage := .blk, phase := .idle })
    (hl : a.length = blockReadBytes u + u.cfgs.pecOnRead.toNat)
    (hv : u.cfgs.pecOnRead = true →
      a.getLast? = some (crc8 ([addrWrite u.params, u.params.cmdMac, addrRead u.params] ++ a.dropLast)))
    (rest : List Input) :
    step { issueNext u with inputs := .busAnswer (.ok a) :: rest } = .next
      (continueLoop (advanceProgress (chunkSize u)
        { u with
          inputs := rest
          retry := u.cfgs.maxRetries
          crc :=
            if u.cfgs.pecOnRead then crc8 ([addrWrite u.params, u.params.cmdMac, addrRead u.params] ++ a.dropLast)
            else u.crc
          z := if u.cfgs.pecOnRead then true else u.z
          scratch := Scratch.empty
          ibuf := memWrite u.ibuf u.off ((a.drop 3).take (chunkSize u))
          trace := blockReadEvent u a :: u.trace })) := by
  have hissue : issueNext u = readIssued u [u.params.cmdMac] (blockReadBytes u) :=
    issueNext_block (by rw [hs]) (by rw [hs])
  rw [hissue]
  have hpass : PassingAnswer
      { readIssued u [u.params.cmdMac] (blockReadBytes u) with inputs := .busAnswer (.ok a) :: rest } (.ok a) :=
    ⟨⟨(outstanding_iff _ _).mpr ⟨hb, rfl⟩, by rintro _ ⟨⟩; exact hl, by simp, by simp⟩, a, rfl, fun _ => hv⟩
  have hcrc (x : Byte) : (if u.cfgs.pecOnRead then x else u.crc) =
      if u.cfgs.pecOnRead then x else if u.cfgs.pecOnRead then 0x00#8 else u.crc := by split <;> rfl
  rw [step_of_block_ok (by simp [readIssued, hs]) (by simp [readIssued, hs]) rfl hpass rfl (hcrc _), ← hs, blockReadEvent, hl]
  rfl

section
variable {v : State} {j : Nat} (h : 32 * j < v.len.toNat)
include h

/-- ENGINE's turn requests block read j (R65, R177). -/
theorem issueNext_atChunk_block :
    issueNext (atChunk .dfrd .blk j v) =
      readIssued (atChunk .dfrd .blk j v) [v.params.cmdMac]
        (3 + if v.params.rdFullFrame then 32 else chunkLength v j) := by
  rw [issueNext_block (by rw [atChunk_of_lt _ _ h]) (by rw [atChunk_of_lt _ _ h]), atChunk_rem_toNat _ _ h]
  rfl

/-- A good answer to it is stored and counted (R141, R178, R179). -/
theorem transacts_chunkRead {a : List Byte} (hc : v.cfgs = v.cfg) (ha : GoodAnswer v j a) :
    Transacts (atChunk .dfrd .blk j v) (.ok a) (atChunk .dfrd .blk (j + 1) (chunkRead a j v)) := by
  obtain ⟨hlen, hpec⟩ := ha
  have hsize := chunkSize_atChunk .dfrd .blk h
  refine ⟨engineReady_atChunk .dfrd .blk h, rfl, fun rest => ?_⟩
  have hl : a.length = blockReadBytes (atChunk .dfrd .blk j v) + v.cfgs.pecOnRead.toNat := by
    rw [hlen, readRequest, ← hsize, ← hc]
    rfl
  rw [step_block_transaction (by rw [atChunk_of_lt _ _ h]) (by rw [atChunk_of_lt _ _ h]) hl (by exact hc ▸ hpec) rest]
  refine congrArg _ (continueLoop_advance_atChunk .dfrd .blk (u := { chunkRead a j v with inputs := rest }) h rfl ?_)
  rw [hsize, atChunk_of_lt _ _ h]
  rfl

end

section
variable (A : Nat → List Byte) (v : State) (j : Nat)
@[simp] theorem chunksRead_params : (chunksRead A v j).params = v.params := by
  induction j with | zero => rfl | succ j ih => exact ih
@[simp] theorem chunksRead_cfg : (chunksRead A v j).cfg = v.cfg := by
  induction j with | zero => rfl | succ j ih => exact ih
@[simp] theorem chunksRead_cfgs : (chunksRead A v j).cfgs = v.cfgs := by
  induction j with | zero => rfl | succ j ih => exact ih
@[simp] theorem chunksRead_base : (chunksRead A v j).base = v.base := by
  induction j with | zero => rfl | succ j ih => exact ih
@[simp] theorem chunksRead_len : (chunksRead A v j).len = v.len := by
  induction j with | zero => rfl | succ j ih => exact ih
@[simp] theorem chunksRead_obuf : (chunksRead A v j).obuf = v.obuf := by
  induction j with | zero => rfl | succ j ih => exact ih
end

/-- What a good answer depends on. -/
theorem goodAnswer_congr {s t : State} (j : Nat) (a : List Byte) (hp : t.params = s.params) (hc : t.cfg = s.cfg)
    (hl : t.len = s.len) : GoodAnswer t j a ↔ GoodAnswer s j a := by
  simp only [GoodAnswer, readRequest, chunkLength, hp, hc, hl]

/-- A good answer brings the chunk's data (R178). -/
theorem data_length_of_goodAnswer {s : State} {j : Nat} {a : List Byte} (h : GoodAnswer s j a) :
    ((a.drop 3).take (chunkLength s j)).length = chunkLength s j := by
  obtain ⟨hlen, -⟩ := h
  have hn : chunkLength s j ≤ 32 := Nat.min_le_left _ _
  rw [List.length_take, List.length_drop, hlen, readRequest]
  split <;> omega

/-- The data of one more answer come after those of the answers before it (R179). -/
theorem readData_append (s : State) (j : Nat) (as : List (List Byte)) (a : List Byte) :
    readData s j (as ++ [a]) = readData s j as ++ (a.drop 3).take (chunkLength s (j + as.length)) := by
  induction as generalizing j with
  | nil => simp [readData]
  | cons b as ih =>
    rw [List.cons_append, readData, ih, readData, List.length_cons, List.append_assoc, Nat.add_comm as.length 1,
      ← Nat.add_assoc]

section
variable {s : State} {A : Nat → List Byte}

/-- Good answers to the first j block reads bring 32 j bytes, or LEN if that is less (R161, R179). -/
theorem readData_length {j : Nat} (h : ∀ i < j, GoodAnswer s i (A i)) :
    (readData s 0 ((List.range j).map A)).length = min (32 * j) s.len.toNat := by
  induction j with
  | zero => simp [readData]
  | succ j ih =>
    have hd := data_length_of_goodAnswer (h j (Nat.lt_succ_self j))
    simp only [List.range_succ, List.map_append, List.map_cons, List.map_nil, readData_append, List.length_append,
      ih fun i hi => h i (Nat.lt_succ_of_lt hi), List.length_map, List.length_range, Nat.zero_add, hd]
    rw [chunkLength]
    omega

/-- IBUF after them: the data one after another from offset 0 (R179). -/
theorem chunksRead_ibuf {j : Nat} (hj : 32 * j ≤ s.len.toNat + 31) (h : ∀ i < j, GoodAnswer s i (A i)) :
    (chunksRead A (selected s) j).ibuf = memWrite s.ibuf 0#16 (readData s 0 ((List.range j).map A)) := by
  induction j with
  | zero => rfl
  | succ j ih =>
    have hg : ∀ i < j, GoodAnswer s i (A i) := fun i hi => h i (Nat.lt_succ_of_lt hi)
    have hlen := readData_length hg
    rw [Nat.min_eq_left (by omega)] at hlen
    rw [chunksRead, chunkRead, ih (by omega) hg, List.range_succ, List.map_append, List.map_singleton, readData_append,
      memWrite_append, hlen]
    simp [chunkLength, selected, accepted]

/-- The trace after them: the select-write, then the block reads, newest first (R53, R179). -/
theorem chunksRead_trace (j : Nat) :
    (chunksRead A (selected s) j).trace =
      (((List.range j).map A).map (blockReadEvent s)).reverse ++ (selected s).trace := by
  induction j with
  | zero => rfl
  | succ j ih =>
    rw [chunksRead, chunkRead, ih]
    simp [List.range_succ, blockReadEvent]
    rfl

/-- The answer to block read j, by number. -/
def answerAt (answers : List (List Byte)) (j : Nat) : List Byte := answers.getD j []

theorem map_answerAt_range (answers : List (List Byte)) :
    (List.range answers.length).map (answerAt answers) = answers :=
  List.ext_getElem (by simp) fun i h1 h2 => by
    rw [List.getElem_map, List.getElem_range, answerAt, List.getD_eq_getElem _ _ h2]

theorem getElem?_eq_answerAt {answers : List (List Byte)} {j : Nat} (hj : j < answers.length) :
    answers[j]? = some (answerAt answers j) := by
  rw [answerAt, List.getD_eq_getElem _ _ hj, List.getElem?_eq_getElem hj]

/-- DF.RD after its select-write and j block reads, answered with `A` (R175). -/
def readAt (s : State) (A : Nat → List Byte) (j : Nat) : State := atChunk .dfrd .blk j (chunksRead A (selected s) j)

/-- Each block read is one transaction. -/
theorem transacts_readAt {j : Nat} (hj : j < chunkCount s) (ha : GoodAnswer s j (A j)) :
    Transacts (readAt s A j) (.ok (A j)) (readAt s A (j + 1)) :=
  transacts_chunkRead (by simpa [selected, accepted] using (lt_chunkCount_iff s j).mp hj)
    (by simp [selected, accepted])
    ((goodAnswer_congr j (A j) (by simp [selected, accepted]) (by simp [selected, accepted])
      (by simp [selected, accepted])).mpr ha)

/-- After all its chunks DF.RD is DONE with OFF = LEN (R20, R21, R175). -/
theorem readAt_chunkCount :
    readAt s A (chunkCount s) =
      { chunksRead A (selected s) (chunkCount s) with
        status := { state := .done, err := .none }
        seq := Seq.idle
        off := s.len
        rem := 0#16 } := by
  rw [readAt, atChunk_of_le _ _ (by simpa [selected, accepted] using len_le_chunkCount s)]
  simp [selected, accepted]

end

end Sys2Proof.Machine

namespace Sys2Proof.Proofs

open Sys2Proof.Machine Sys2Proof.Claims

/-- Settles O39: the run is the select-write and one transaction a block read; `readAt_chunkCount` says where it ends, and
`chunksRead_ibuf` what IBUF holds. -/
theorem chunkedReadReassembles : Obligations.ChunkedReadReassembles := by
  intro s u answers rest hb hl hn hgood hi he
  obtain rfl : u = startChunkedRead s := (exec_next he).2
  have hlast : (List.range (chunkCount s)).map (answerAt answers) = answers := hn ▸ map_answerAt_range answers
  have hgoodAt (j : Nat) (hj : j < chunkCount s) : GoodAnswer s j (answerAt answers j) :=
    hgood j _ (getElem?_eq_answerAt (hn ▸ hj))
  have hread (j : Nat) (o : BusOutcome) (ho : (answers.map BusOutcome.ok)[j]? = some o) :
      Transacts (readAt s (answerAt answers) j) o (readAt s (answerAt answers) (j + 1)) := by
    have hj : j < answers.length := by
      by_contra hge
      simp [List.getElem?_eq_none (Nat.not_lt.mp hge)] at ho
    obtain rfl : .ok (answerAt answers j) = o := by simpa [getElem?_eq_answerAt hj] using ho
    exact transacts_readAt (hn ▸ hj) (hgoodAt j (hn ▸ hj))
  have hself : { startChunkedRead s with inputs := s.inputs } = startChunkedRead s := by
    rw [startChunkedRead_of_len_ne hl]
  have hrun : Host.Core.run Sys2Proof.core (2 + 2 * chunkCount s) (startChunkedRead s) =
      .next { readAt s (answerAt answers) (chunkCount s) with inputs := rest } := by
    obtain ⟨-, hselect⟩ := transacts_select hl
    have hreads := run_transactions hread rest
    rw [List.length_map, hn] at hreads
    rw [Nat.add_comm 2, ← hself, hi]
    exact (hselect.run _ _).trans hreads
  rw [readAt_chunkCount] at hrun
  have hlen := readData_length hgoodAt
  have hibuf := chunksRead_ibuf (by unfold chunkCount; omega) hgoodAt
  rw [hlast] at hlen hibuf
  refine ⟨_, hrun, rfl, rfl, rfl, rfl, ?_, hibuf, ?_, ?_⟩
  · simp [chunksRead_trace, hlast]
    simp [selected]
  · rw [hlen, Nat.min_eq_right (len_le_chunkCount s)]
  · simp [selected, accepted]

end Sys2Proof.Proofs

/-! ### The ideal gauge -/

namespace Sys2Proof.Machine

open Sys2Proof.Claims

/-- A 16-bit offset moved on twice. -/
theorem add_ofNat_add (a : Half) (m n : Nat) : a + BitVec.ofNat 16 m + BitVec.ofNat 16 n = a + BitVec.ofNat 16 (m + n) := by
  rw [BitVec.add_assoc, BitVec.ofNat_add]

theorem add_one_add_ofNat (a : Half) (n : Nat) : a + 1#16 + BitVec.ofNat 16 n = a + BitVec.ofNat 16 (n + 1) := by
  rw [Nat.add_comm n 1]
  exact add_ofNat_add a 1 n

/-- MemRead of a string in two parts (R33). -/
theorem memRead_add (s : State) (sp : Space) (a : Half) (m n : Nat) :
    memRead s sp a (m + n) = memRead s sp a m ++ memRead s sp (a + BitVec.ofNat 16 m) n := by
  induction m generalizing a with
  | zero => simp [memRead]
  | succ m ih => rw [Nat.add_right_comm, memRead, memRead, ih, add_one_add_ofNat, List.cons_append]

/-- The gauge stores a string in two parts. -/
theorem storeDf_append (df : Half → Byte) (a : Half) (xs ys : List Byte) :
    storeDf df a (xs ++ ys) = storeDf (storeDf df a xs) (a + BitVec.ofNat 16 xs.length) ys := by
  induction xs generalizing df a with
  | nil => rw [List.nil_append, List.length_nil, BitVec.add_zero]; rfl
  | cons x xs ih =>
    rw [List.length_cons, ← add_one_add_ofNat]
    exact ih _ _

/-- What the gauge holds outside the bytes stored. -/
theorem storeDf_of_ne (df : Half → Byte) {a x : Half} {vs : List Byte}
    (h : ∀ i < vs.length, x ≠ a + BitVec.ofNat 16 i) : storeDf df a vs x = df x := by
  induction vs generalizing df a with
  | nil => rfl
  | cons v vs ih =>
    have hx : x ≠ a := by simpa using h 0 (Nat.succ_pos _)
    rw [storeDf, ih _ fun i hi => by rw [add_one_add_ofNat]; exact h (i + 1) (Nat.succ_lt_succ hi), if_neg hx]

/-- What it holds where they were stored, if they are no more than its addresses. -/
theorem storeDf_getElem (df : Half → Byte) (a : Half) {vs : List Byte} {i : Nat} (hl : vs.length ≤ 65536)
    (hi : i < vs.length) : storeDf df a vs (a + BitVec.ofNat 16 i) = vs[i] := by
  induction vs generalizing df a i with
  | nil => simp at hi
  | cons v vs ih =>
    rw [List.length_cons] at hl hi
    cases i with
    | zero =>
      have hfree (i : Nat) (hi : i < vs.length) : a ≠ a + 1#16 + BitVec.ofNat 16 i := by bv_omega
      rw [BitVec.add_zero, storeDf, storeDf_of_ne _ hfree, if_pos rfl, List.getElem_cons_zero]
    | succ i => 
      rw [storeDf, ← add_one_add_ofNat a i, ih _ _ (by omega) (Nat.lt_of_succ_lt_succ hi), List.getElem_cons_succ]

section
variable (g : Gauge)

@[simp] theorem bytes_length (p : Half) (n : Nat) : (g.bytes p n).length = n := by
  induction n generalizing p with
  | zero => rfl
  | succ n ih => simp [Gauge.bytes, ih]

/-- The gauge's bytes in two parts. -/
theorem bytes_add (p : Half) (m n : Nat) :
    g.bytes p (m + n) = g.bytes p m ++ g.bytes (p + BitVec.ofNat 16 m) n := by
  induction m generalizing p with
  | zero => simp [Gauge.bytes]
  | succ m ih => rw [Nat.add_right_comm, Gauge.bytes, Gauge.bytes, ih, add_one_add_ofNat, List.cons_append]

/-- The first of them. -/
theorem bytes_take (p : Half) {m n : Nat} (h : n ≤ m) : (g.bytes p m).take n = g.bytes p n := by
  rw [← Nat.add_sub_cancel' h, bytes_add, List.take_left' (bytes_length g p n)]

/-- One of them. -/
theorem bytes_getElem (p : Half) {n i : Nat} (h : i < (g.bytes p n).length) :
    (g.bytes p n)[i] = g.df (p + BitVec.ofNat 16 i) := by
  induction n generalizing p i with
  | zero => simp [Gauge.bytes] at h
  | succ n ih =>
    cases i with
    | zero => simp [Gauge.bytes]
    | succ i =>
      have hi : i < (g.bytes (p + 1#16) n).length := by simpa using h
      rw [← add_one_add_ofNat, ← ih _ hi]
      rfl

/-- The gauge's bytes do not depend on its pointer. -/
theorem bytes_withPtr (x p : Half) (n : Nat) : Gauge.bytes { g with ptr := x } p n = g.bytes p n := by
  induction n generalizing p with
  | zero => rfl
  | succ n ih => rw [Gauge.bytes, Gauge.bytes, ih]

end

/-- The two address bytes of a frame make up the address (R44). -/
theorem hi8_append_lo8 (a : Half) : a.extractLsb' 8 8 ++ a.extractLsb' 0 8 = a :=
  BitVec.extractLsb'_append_extractLsb' (w := 8) (len := 8)

/-- The gauge answers a write by storing what the frame carries. -/
theorem answer_writeIssued (g : Gauge) (u : State) (out : List Byte) :
    g.answer (writeIssued u out) = (.ok [], g.write out) := by
  have hf : framePayload (writeIssued u out) = out := by
    simp only [framePayload, writeIssued, wireFrame]
    split <;> simp
  simp only [Gauge.answer, writeIssued] at hf ⊢
  rw [hf]

/-- It answers a write-then-read with the bytes requested. -/
theorem answer_readIssued (g : Gauge) (u : State) (out : List Byte) (nin : Nat) :
    g.answer (readIssued u out nin) =
      (.ok (g.read u.params u.cfgs.pecOnRead (nin + u.cfgs.pecOnRead.toNat)).1,
        (g.read u.params u.cfgs.pecOnRead (nin + u.cfgs.pecOnRead.toNat)).2) := rfl

/-- T0 on chunk j of DF.WR. -/
theorem write_chunkPayload (g : Gauge) (s : State) (j : Nat) :
    g.write (chunkPayload s j) =
      { df := storeDf g.df (s.base + BitVec.ofNat 16 (32 * j)) (memRead s .obuf (BitVec.ofNat 16 (32 * j)) (chunkLength s j))
        ptr := s.base + BitVec.ofNat 16 (32 * j) } := by
  simp only [Gauge.write, chunkPayload, List.cons_append, List.nil_append]
  rw [hi8_append_lo8]

/-- T0 on the select-write. -/
theorem write_selectPayload (g : Gauge) (s : State) : g.write (selectPayload s) = { g with ptr := s.base } := by
  simp only [Gauge.write, selectPayload]
  rw [hi8_append_lo8]
  rfl

/-- A running transaction that T0 answers. -/
theorem gaugeRuns_of_transacts {g g' : Gauge} {u t v : State} {o : BusOutcome} {g1 : Gauge} (ha : g.answer (issueNext u) = (o, g1))
    (h : Transacts u o t) (hr : GaugeRuns g1 t g' v) : GaugeRuns g u g' v := by
  obtain ⟨ready, inputs, answer⟩ := h
  have hstep : step { issueNext u with inputs := .busAnswer (g.answer (issueNext u)).1 :: (issueNext u).inputs } = .next t := by
    rw [ha, answer, issueNext_inputs, ← inputs]
  refine .issue g u (issueNext u) g' v ready (step_engine u u.inputs ready) ?_
  refine .answer g (issueNext u) t g' v (by simp) hstep ?_
  rw [ha]
  exact hr

/-- Transactions one after another, T0 answering: the gauge's run takes them all. -/
theorem gaugeRuns_transactions {U : Nat → State} {G : Nat → Gauge} {O : Nat → BusOutcome} {n : Nat} {g' : Gauge} {v : State}
    (h : ∀ j < n, Transacts (U j) (O j) (U (j + 1)) ∧ (G j).answer (issueNext (U j)) = (O j, G (j + 1)))
    (hr : GaugeRuns (G n) (U n) g' v) : GaugeRuns (G 0) (U 0) g' v := by
  induction n with
  | zero => exact hr
  | succ n ih =>
    obtain ⟨ht, ha⟩ := h n (Nat.lt_succ_self n)
    exact ih (fun j hj => h j (Nat.lt_succ_of_lt hj)) (gaugeRuns_of_transacts ha ht hr)

/-! ### The round trip -/

/-- The gauge after j chunks of DF.WR. -/
def gaugeWritten (g : Gauge) (s : State) : Nat → Gauge
  | 0 => g
  | j + 1 => (gaugeWritten g s j).write (chunkPayload s j)

/-- The bytes of chunk j end where min(32 (j + 1), LEN) says. -/
theorem add_chunkLength {s : State} {j : Nat} (hj : j < chunkCount s) :
    32 * j + chunkLength s j = min (32 * (j + 1)) s.len.toNat := by
  have hlt := (lt_chunkCount_iff s j).mp hj
  rw [chunkLength]
  omega

/-- It holds the bytes of OBUF that the chunks carried. -/
theorem gaugeWritten_df (g : Gauge) (s : State) {j : Nat} (hj : j ≤ chunkCount s) :
    (gaugeWritten g s j).df = storeDf g.df s.base (memRead s .obuf 0#16 (min (32 * j) s.len.toNat)) := by
  induction j with
  | zero => rw [Nat.mul_zero, Nat.zero_min]; rfl
  | succ j ih =>
    have hlt := (lt_chunkCount_iff s j).mp hj
    rw [gaugeWritten, write_chunkPayload, ih (by omega), Nat.min_eq_left hlt.le, ← add_chunkLength hj, memRead_add,
      storeDf_append, memRead_length, BitVec.zero_add]

/-- ENGINE's turn issues chunk j (R161, R170). -/
theorem issueNext_writeAt {s : State} {j : Nat} (hj : j < chunkCount s) :
    issueNext (writeAt s j) = writeIssued (writeAt s j) (chunkPayload s j) := by
  have hlt : 32 * j < (chunksWritten (accepted s) j).len.toNat := by
    simpa [accepted] using (lt_chunkCount_iff s j).mp hj
  rw [writeAt, issueNext_atChunk_write hlt, chunkPayload_chunksWritten, chunkPayload_accepted]

/-- T0 answers DF.WR, one chunk after another. -/
theorem gaugeRuns_write (g : Gauge) (s : State) :
    GaugeRuns g (startChunkedWrite s) (gaugeWritten g s (chunkCount s)) (writeAt s (chunkCount s)) := by
  have hstop : (writeAt s (chunkCount s)).busy = false := by
    rw [writeAt_chunkCount]
    rfl
  rw [startChunkedWrite_eq_atChunk]
  refine gaugeRuns_transactions (U := writeAt s) (G := gaugeWritten g s) (O := fun _ => .ok [])
    (fun j hj => ⟨transacts_writeAt hj, ?_⟩) (.stop _ _ hstop)
  rw [issueNext_writeAt hj, answer_writeIssued]
  rfl

/-- The data bytes that block read j asks for (R65, R177). -/
def dataRequested (s : State) (j : Nat) : Nat := if s.params.rdFullFrame then 32 else chunkLength s j

section
variable {s : State} {A : Nat → List Byte} {j : Nat}

theorem readAt_params : (readAt s A j).params = s.params := chunksRead_params A (selected s) j

theorem readAt_cfgs : (readAt s A j).cfgs = s.cfg := chunksRead_cfgs A (selected s) j

/-- ENGINE's turn requests block read j (R65, R177). -/
theorem issueNext_readAt (hj : j < chunkCount s) :
    issueNext (readAt s A j) = readIssued (readAt s A j) [s.params.cmdMac] (3 + dataRequested s j) := by
  have hlt : 32 * j < (chunksRead A (selected s) j).len.toNat := by
    simpa [selected, accepted] using (lt_chunkCount_iff s j).mp hj
  rw [readAt, issueNext_atChunk_block hlt]
  simp [dataRequested, chunkLength, selected, accepted]

end

/-- T0's in-frame of m data bytes, its PEC byte apart (95_test_vectors.md section 2.1). -/
def gaugeFrame (g : Gauge) (m : Nat) : List Byte :=
  [BitVec.ofNat 8 (m + 2), g.ptr.extractLsb' 0 8, g.ptr.extractLsb' 8 8] ++ g.bytes g.ptr m

/-- The gauge after the select-write and j block reads. -/
def gaugeRead (g : Gauge) (s : State) : Nat → Gauge
  | 0 => g.write (selectPayload s)
  | j + 1 => ((gaugeRead g s j).read s.params s.cfg.pecOnRead (readRequest s j)).2

/-- Its answer to block read j. -/
def gaugeAnswer (g : Gauge) (s : State) (j : Nat) : List Byte :=
  ((gaugeRead g s j).read s.params s.cfg.pecOnRead (readRequest s j)).1

/-- T0 on block read j. -/
theorem read_readRequest (g : Gauge) (s : State) (j : Nat) :
    g.read s.params s.cfg.pecOnRead (readRequest s j) =
      (gaugeFrame g (dataRequested s j) ++
          (if s.cfg.pecOnRead then
            [crc8 ([addrWrite s.params, s.params.cmdMac, addrRead s.params] ++ gaugeFrame g (dataRequested s j))]
          else []),
        { g with ptr := g.ptr + BitVec.ofNat 16 (dataRequested s j) }) := by
  have hm : readRequest s j - 3 - s.cfg.pecOnRead.toNat = dataRequested s j := by
    rw [readRequest, Nat.add_assoc, Nat.add_sub_cancel_left, Nat.add_sub_cancel]
    rfl
  simp only [Gauge.read, hm]
  split <;> simp [gaugeFrame]

/-- T0's answers verify (R141, R182). -/
theorem goodAnswer_gaugeAnswer (g : Gauge) (s : State) (j : Nat) : GoodAnswer s j (gaugeAnswer g s j) := by
  rw [gaugeAnswer, read_readRequest]
  refine ⟨?_, fun hpec => ?_⟩
  · have hl : (gaugeFrame (gaugeRead g s j) (dataRequested s j)).length = 3 + dataRequested s j := by
      simp [gaugeFrame]
      omega
    rw [readRequest, ← dataRequested, List.length_append, hl]
    split <;> simp [*]
  · rw [if_pos hpec, List.getLast?_concat, List.dropLast_concat]

/-- They carry the bytes at the pointer (R178, R182). -/
theorem gaugeAnswer_data (g : Gauge) (s : State) (j : Nat) :
    ((gaugeAnswer g s j).drop 3).take (chunkLength s j) =
      (gaugeRead g s j).bytes (gaugeRead g s j).ptr (chunkLength s j) := by
  have hle : chunkLength s j ≤ dataRequested s j := by
    rw [dataRequested]
    split
    · exact Nat.min_le_left _ _
    · exact le_rfl
  rw [gaugeAnswer, read_readRequest]
  simp only [gaugeFrame, List.cons_append, List.nil_append, List.drop_succ_cons, List.drop_zero]
  rw [List.take_append_of_le_length (by simpa using hle), bytes_take _ _ hle]

/-- While block reads are to come the pointer stands at the next chunk: every one before it moved 32 bytes (R161, R177). -/
theorem gaugeRead_eq (g : Gauge) {s : State} {j : Nat} (hj : j < chunkCount s) :
    gaugeRead g s j = { g with ptr := s.base + BitVec.ofNat 16 (32 * j) } := by
  induction j with
  | zero => rw [gaugeRead, write_selectPayload, Nat.mul_zero, BitVec.add_zero]
  | succ j ih =>
    have hlt := (lt_chunkCount_iff s (j + 1)).mp hj
    have hm : dataRequested s j = 32 := by
      rw [dataRequested, chunkLength, Nat.min_eq_left (by omega), ite_self]
    rw [gaugeRead, read_readRequest, ih (by omega), hm]
    simp only [add_ofNat_add, Nat.mul_succ]

/-- The data of T0's answers are its bytes from BASE on (R179, R182). -/
theorem readData_gaugeAnswer (g : Gauge) (s : State) {j : Nat} (hj : j ≤ chunkCount s) :
    readData s 0 ((List.range j).map (gaugeAnswer g s)) = g.bytes s.base (min (32 * j) s.len.toNat) := by
  induction j with
  | zero => rw [Nat.mul_zero, Nat.zero_min]; rfl
  | succ j ih =>
    have hlt := (lt_chunkCount_iff s j).mp hj
    rw [List.range_succ, List.map_append, List.map_singleton, readData_append, ih (by omega), List.length_map,
      List.length_range, Nat.zero_add, gaugeAnswer_data, gaugeRead_eq g hj,
      Nat.min_eq_left hlt.le, ← add_chunkLength hj, bytes_add]
    exact congrArg _ (bytes_withPtr g _ _ _)

/-- T0 answers DF.RD, the select-write and one block read after another. -/
theorem gaugeRuns_read (g : Gauge) {s : State} (hl : s.len ≠ 0#16) :
    GaugeRuns g (startChunkedRead s) (gaugeRead g s (chunkCount s)) (readAt s (gaugeAnswer g s) (chunkCount s)) := by
  have hstop : (readAt s (gaugeAnswer g s) (chunkCount s)).busy = false := by
    rw [readAt_chunkCount]
    rfl
  obtain ⟨hissue, hselect⟩ := transacts_select hl
  refine gaugeRuns_of_transacts (hissue ▸ answer_writeIssued g _ _) hselect ?_
  refine gaugeRuns_transactions (U := readAt s (gaugeAnswer g s)) (G := gaugeRead g s) (O := fun j => .ok (gaugeAnswer g s j))
    (fun j hj => ⟨transacts_readAt hj (goodAnswer_gaugeAnswer g s j), ?_⟩) (.stop _ _ hstop)
  rw [issueNext_readAt hj, answer_readIssued, readAt_params, readAt_cfgs]
  rfl

/-- After DF.WR against T0 the gauge holds OBUF[0..LEN] at BASE (R182). -/
theorem gaugeWritten_bytes (g : Gauge) (s : State) :
    (gaugeWritten g s (chunkCount s)).bytes s.base s.len.toNat = memRead s .obuf 0#16 s.len.toNat := by
  refine List.ext_getElem (by simp) fun i hi hi' => ?_
  have hlen : (memRead s .obuf 0#16 s.len.toNat).length ≤ 65536 := by
    rw [memRead_length]
    exact s.len.isLt.le
  rw [bytes_getElem, gaugeWritten_df g s le_rfl, Nat.min_eq_right (len_le_chunkCount s), storeDf_getElem _ _ hlen hi']

/-- After DF.RD against T0 IBUF[0..LEN] is what the gauge holds at BASE (R179, R182). -/
theorem readAt_gaugeAnswer_ibuf (g : Gauge) (s : State) :
    (readAt s (gaugeAnswer g s) (chunkCount s)).ibuf = memWrite s.ibuf 0#16 (g.bytes s.base s.len.toNat) := by
  have hibuf := chunksRead_ibuf (s := s) (A := gaugeAnswer g s) (j := chunkCount s) (by unfold chunkCount; omega)
    fun j _ => goodAnswer_gaugeAnswer g s j
  rw [readData_gaugeAnswer g s le_rfl, Nat.min_eq_right (len_le_chunkCount s)] at hibuf
  exact hibuf

/-- DF.RD against T0 (R175, R182): it is accepted, and ends DONE with the gauge's bytes at BASE in IBUF. -/
theorem gaugeRuns_exec_dfRd (g : Gauge) {s : State} (hb : s.busy = false) :
    ∃ u g' t, exec .dfRd s = .next u ∧ GaugeRuns g u g' t ∧ t.status = { state := .done, err := .none } ∧
      t.ibuf = memWrite s.ibuf 0#16 (g.bytes s.base s.len.toNat) := by
  have hexec := exec_of_not_busy .dfRd hb
  by_cases hl : s.len = 0#16
  · rw [effectOf_chunked_of_len_eq hl (.inr rfl)] at hexec
    exact ⟨_, g, _, hexec, .stop _ _ rfl, rfl, by rw [hl]; rfl⟩
  · exact ⟨_, _, _, hexec, gaugeRuns_read g hl, by rw [readAt_chunkCount], readAt_gaugeAnswer_ibuf g s⟩

/-- The first LEN bytes of IBUF after that many were written from offset 0. -/
theorem readByte_of_memWrite_zero {s t : State} {vs : List Byte} (h : t.ibuf = memWrite s.ibuf 0#16 vs)
    (hl : vs.length ≤ 65536) {i : Nat} (hi : i < vs.length) : some (readByte t .ibuf (BitVec.ofNat 16 i)) = vs[i]? := by
  have hx : (BitVec.ofNat 16 i).toNat = i := Nat.mod_eq_of_lt (by omega)
  simp only [readByte, State.buf, h]
  rw [memWrite_find _ _ _ _ (by simpa using hl)]
  simp [hx, hi]

end Sys2Proof.Machine

namespace Sys2Proof.Proofs

open Sys2Proof.Machine Sys2Proof.Claims

/-- Settles O40: T0 stores OBUF chunk by chunk from BASE, and its answers bring the same bytes back; the window is not needed, for
both transfers wrap alike. -/
theorem writeThenReadRoundTrip : Obligations.WriteThenReadRoundTrip := by
  intro s g c hb _
  have hstatus : (writeAt s (chunkCount s)).status = { state := .done, err := .none } := by rw [writeAt_chunkCount]
  have hbase : (writeAt s (chunkCount s)).base = s.base := chunksWritten_base (accepted s) _
  have hlen : (writeAt s (chunkCount s)).len = s.len := chunksWritten_len (accepted s) _
  have hbusy : State.busy { writeAt s (chunkCount s) with cfg := c } = false := by simp [State.busy, hstatus]
  obtain ⟨u', g2, t, hexec, hread, hdone, hibuf⟩ := gaugeRuns_exec_dfRd (gaugeWritten g s (chunkCount s)) hbusy
  refine ⟨_, _, _, u', g2, t, exec_of_not_busy .dfWr hb, gaugeRuns_write g s, hstatus, hexec, hread, hdone, hbase, hlen,
    fun i hi => ?_⟩
  simp only [hbase, hlen, gaugeWritten_bytes] at hibuf
  have hbyte := readByte_of_memWrite_zero (s := writeAt s (chunkCount s)) hibuf (by simpa using s.len.isLt.le) (by simpa using hi)
  rw [memRead_get _ _ _ _ _ hi, BitVec.zero_add] at hbyte
  exact Option.some.inj hbyte

end Sys2Proof.Proofs

/-! ### What reports an error -/

namespace Sys2Proof.Machine

open Sys2Proof.Claims

/-- A word that does not decode is one no row selects (R69). -/
theorem undefinedWord_of_decode_error {w : Word} {e : Undefined} (h : decode w = .error e) : UndefinedWord w := by
  intro r hr
  rw [Bool.eq_false_iff]
  intro hw
  obtain ⟨i, -, rfl⟩ := List.mem_map.mp (rows_eq_map_rowOf ▸ hr)
  obtain ⟨j, hj, -⟩ := decode_of_rowOf_selects hw
  simp [h] at hj

/-- A raw transfer with a frame that does not fit its buffer (R145, R146, R190). -/
def Oversized (s : State) (i : Instr) : Prop :=
  (i = .xfW ∧ 37 < s.len.toNat + s.cfg.pecOnWrite.toNat) ∨
  (i = .xfWr ∧ (37 < s.len.toNat ∨ 36 < s.ilen.toNat + s.cfg.pecOnRead.toNat))

/-- An operation reports no error, leaves STATUS as it is, or is an oversized raw transfer's ProtocolViolation (R190, R201). -/
theorem effectOf_status_cases (i : Instr) (s : State) :
    (effectOf i s).status.err = .none ∨ (effectOf i s).status = s.status ∨
      ((effectOf i s).status.err = .protocolViolation ∧ Oversized s i) := by
  cases i with
  | xfW =>
    obtain ⟨-, he⟩ | ⟨hbig, he⟩ := startRawWrite_cases s <;> rw [effectOf, he]
    · exact .inl rfl
    · exact .inr (.inr ⟨rfl, .inl ⟨rfl, hbig⟩⟩)
  | xfWr =>
    obtain ⟨-, -, he⟩ | ⟨hbig, he⟩ := startRawRead_cases s <;> rw [effectOf, he]
    · exact .inl rfl
    · exact .inr (.inr ⟨rfl, .inr ⟨rfl, hbig⟩⟩)
  | dfWr =>
    left
    by_cases hl : s.len = 0#16
    · rw [effectOf_chunked_of_len_eq hl (.inl rfl)]
    · rw [effectOf, startChunkedWrite_of_len_ne hl]
  | dfRd =>
    left
    by_cases hl : s.len = 0#16
    · rw [effectOf_chunked_of_len_eq hl (.inr rfl)]
    · rw [effectOf, startChunkedRead_of_len_ne hl]
  | abort =>
    obtain ⟨-, he⟩ | ⟨-, -, he⟩ | ⟨-, -, he⟩ := effectOf_abort_cases s <;> rw [he]
    · exact .inr (.inl (issueNext_status s))
    · exact .inl rfl
    · exact .inl rfl
  | _ => exact .inr (.inl rfl)

/-- A word that cannot run: undefined, or an oversized raw transfer (R69, R190). -/
def ViolatingWord (s : State) (w : Word) : Prop := UndefinedWord w ∨ ∃ i, decode w = .ok i ∧ Oversized s i

/-- A correct host's word can run (U5). -/
theorem CarefulWord.not_violatingWord {s : State} {w : Word} (h : CarefulWord s w) : ¬ViolatingWord s w := by
  obtain ⟨-, i, hd, hw, hwr, -⟩ := h
  rintro (hundef | ⟨j, hj, hbig⟩)
  · obtain ⟨e, he⟩ := decode_of_undefinedWord hundef
    simp [hd] at he
  · obtain rfl : i = j := Except.ok.inj (hd.symm.trans hj)
    obtain ⟨rfl, hbig⟩ | ⟨rfl, hbig⟩ := hbig
    · have hfits : s.len.toNat + s.cfg.pecOnWrite.toNat ≤ 37 := (rawWriteFits_iff _).mp (hw rfl)
      omega
    · have hfits : s.len.toNat ≤ 37 ∧ s.ilen.toNat + s.cfg.pecOnRead.toNat ≤ 36 := (rawReadFits_iff _).mp (hwr rfl)
      omega

/-- A word that newly reports an error cannot run, and reports ProtocolViolation with no port call and no retry consumed (R201). -/
theorem turnEffect_command_of_error {w : Word} {s : State} (he : (turnEffect (.command w) s).status.err ≠ .none)
    (hne : (turnEffect (.command w) s).status ≠ s.status) :
    ViolatingWord s w ∧ (turnEffect (.command w) s).status.err = .protocolViolation ∧
      (turnEffect (.command w) s).trace = s.trace ∧ (turnEffect (.command w) s).retry = s.retry := by
  obtain ⟨i, hd, ht⟩ | ⟨e, hd, ht⟩ := turnEffect_command_cases w s <;> rw [ht] at he hne ⊢
  · obtain hnone | hsame | ⟨hpv, hbig⟩ := effectOf_status_cases i s
    · exact absurd hnone he
    · exact absurd hsame hne
    · have hc : classOf i ≠ .control := by obtain ⟨rfl, -⟩ | ⟨rfl, -⟩ := hbig <;> decide
      obtain ⟨hretry, -⟩ := effectOf_retry_inputs s (.inl hc)
      exact ⟨.inr ⟨i, hd, hbig⟩, hpv, effectOf_trace s hc, hretry⟩
  · exact ⟨.inl (undefinedWord_of_decode_error hd), rfl, rfl, rfl⟩

/-- An answer that newly reports an error fails the last allowed attempt (R116). -/
theorem failingAnswer_of_error {o : BusOutcome} {s : State} (hok : AnswerOk s o)
    (he : (completeAttempt o s).status.err ≠ .none) (hne : (completeAttempt o s).status ≠ s.status) :
    FailingAnswer s o ∧ s.retry = 0#8 := by
  obtain ⟨-, hs⟩ | ⟨f, hf, hs⟩ := completeAttempt_cases o s <;> rw [hs] at he hne
  · obtain ⟨-, hdone | hsame⟩ := afterSuccess_phase_status (s := releaseBuffers (answered o s)) (payloadOf s o) (by simp)
    · exact absurd (congrArg Status.err hdone) he
    · exact absurd (hsame.trans (answered_status o s)) hne
  · obtain ⟨hr, -⟩ | ⟨-, ha⟩ := afterFailure_cases f (answered o s)
    · exact ⟨(failingAnswer_iff s o).mpr ⟨hok, by simp [hf]⟩, by simpa using hr⟩
    · exact absurd (by simp [ha]) hne

/-- Only an answer that fails the last allowed attempt and a presented word newly report an error (R190). -/
theorem turnEffect_error_cases {i : Input} {s : State} (hok : InputOk s i) (he : (turnEffect i s).status.err ≠ .none)
    (hne : (turnEffect i s).status ≠ s.status) :
    (∃ o, i = .busAnswer o ∧ FailingAnswer s o ∧ s.retry = 0#8) ∨ (∃ w, i = .command w) := by
  cases i with
  | busAnswer o => exact .inl ⟨o, rfl, failingAnswer_of_error hok he hne⟩
  | command w => exact .inr ⟨w, rfl⟩
  | reset => exact absurd rfl he
  | _ => simp [turnEffect] at hne

end Sys2Proof.Machine

namespace Sys2Proof.Proofs

open Sys2Proof.Machine Sys2Proof.Claims

/-- Settles O8: only a word that cannot run newly reports an error, and a correct host's word can. -/
theorem carefulHostCausesNoProtocolViolation : Obligations.CarefulHostCausesNoProtocolViolation := by
  intro s w rest hw hi
  refine ⟨_, step_of_inputOk hi hw.1, fun hpv => ?_⟩
  by_contra hne
  obtain ⟨hviolating, -⟩ := turnEffect_command_of_error (s := { s with inputs := rest }) (by simp [hpv]) hne
  exact hw.not_violatingWord hviolating

/-- Settles O45: a failing answer on the last allowed attempt reports what O30 says of it, and a word that cannot run reports
ProtocolViolation; no other turn newly reports an error. -/
theorem everyErrorHasItsCause : Obligations.EveryErrorHasItsCause := by
  intro s t h he hne
  obtain ⟨i, rest, hi, hok, rfl⟩ := step_turn_of_ne (f := State.status) issueNext_status h hne
  obtain ⟨o, rfl, hf, hr⟩ | ⟨w, rfl⟩ :=
    turnEffect_error_cases (s := { s with inputs := rest }) ((inputOk_withInputs s rest i).mpr hok) he hne
  · obtain ⟨k, c, crc, z, hstep, hreport⟩ := exhaustedBudgetRaisesTheLastFailure s o rest hf hr hi
    rw [Host.Outcome.next.inj (h.symm.trans hstep)]
    obtain ⟨⟨-, -, hdeadline, -⟩, hcases⟩ := hf
    obtain ⟨cause, rfl⟩ | rfl | ⟨data, rfl, hk, hp, hv⟩ := hcases
    · obtain ⟨rfl, rfl, -⟩ := hreport
      exact .inl ⟨c, rest, hi, hr, rfl, rfl⟩
    · obtain ⟨rfl, -⟩ := hreport
      exact .inr (.inr (.inl ⟨rest, hi, hr, rfl, hdeadline rfl⟩))
    · obtain ⟨rfl, -, rfl, -⟩ := hreport
      exact .inr (.inl ⟨data, rest, hi, hr, rfl, hp, hk, hv, rfl⟩)
  · obtain ⟨hw, hpv, htrace, hretry⟩ := turnEffect_command_of_error (s := { s with inputs := rest }) he hne
    refine .inr (.inr (.inr ⟨w, rest, hi, hpv, htrace, hretry, ?_⟩))
    obtain hundef | ⟨i, hd, ⟨rfl, hbig⟩ | ⟨rfl, hbig⟩⟩ := hw
    · exact .inl hundef
    · exact .inr (.inl ⟨hd, hbig⟩)
    · exact .inr (.inr ⟨hd, hbig⟩)

end Sys2Proof.Proofs

/-! ### Reset -/

namespace Sys2Proof.Machine

@[simp] theorem resetBlock_inputs (s : State) : (resetBlock s).inputs = s.inputs := abandonRequest_inputs s

/-- Reset settles the newest event exactly when it is an outstanding bus request's, as ABORT does (R97, R221). -/
@[simp] theorem resetBlock_trace (s : State) :
    (resetBlock s).trace = if s.seq.phase = .attempt then settleNewest .cancelled s.trace else s.trace :=
  cancelOperation_trace s

end Sys2Proof.Machine

namespace Sys2Proof.Proofs

open Sys2Proof.Machine

/-- Settles O43: reset is a turn that is always allowed. Its effect writes the twelve registers outright; the buffers, the
parameters, the schedule and the trace are as the abandoned request leaves them. -/
theorem resetSetsEveryRegister : Obligations.ResetSetsEveryRegister := by
  intro s rest hi
  have hstep : step s = .next (resetBlock { s with inputs := rest }) := step_of_inputOk hi trivial
  refine ⟨_, hstep, rfl, rfl, rfl, ?cfg, ?cfgs, rfl, rfl, rfl, rfl, rfl, rfl, rfl,
    resetBlock_obuf _, resetBlock_ibuf _, resetBlock_params _, resetBlock_inputs _, resetBlock_trace _⟩
  case cfg | cfgs => exact congrArg Params.cfgReset (abandonRequest_params _)

end Sys2Proof.Proofs
